-- ==== Sys2Proof/Word.lean ====
section
/-! DEFINITION. The word types of the block (spec 00_scope R8 and R10). Bit 0 is the least significant bit. -/

namespace Sys2Proof

/-- A 16-bit block value or operand (INFO_WIDTH, 00_scope R8). -/
abbrev Word := BitVec 16

/-- An 8-bit character or AF code. -/
abbrev Byte := BitVec 8

/-- A bit-time (BT_WIDTH, 10_state R22). -/
abbrev BitTime := BitVec 64

/-- A 26-bit codeword (30_encoding R62). -/
abbrev Codeword := BitVec 26

/-- A 10-bit syndrome (40_syndrome_rom R76). -/
abbrev Syndrome := BitVec 10

end Sys2Proof
end

