-- ==== Sys2Proof/Syntax.lean ====
section
/-! DEFINITION. The syntax of the block: operands, one constructor of `Instr` per row of spec/opcode_table.json, and the
encoded forms (`Code`) that its decoders read. -/

namespace Sys2Proof

/-- The version of a group type (30_encoding R66): A is 0 and B is 1. -/
inductive Ver
  | A
  | B
deriving DecidableEq, Repr

/-- A (type, version) pair: the index of ST.GSTAT and of ST.SLOT (10_state R30 and R38). -/
structure Slot where
  type : BitVec 4
  ver : Ver
deriving DecidableEq, Repr

/-- A walk direction (45_location R145): POS is 0 and NEG is 1. -/
inductive Dir
  | pos
  | neg
deriving DecidableEq, Repr

/-- A location key (20_memory R46): country id, location-table number, location code of 16 bits. -/
structure LocKey where
  cid : Nat
  tabcd : Nat
  lcd : Word
deriving DecidableEq, Repr

/-- The concrete kind of a location (20_memory R48). -/
inductive LocKind
  | area
  | road
  | segment
  | point
deriving DecidableEq, Repr

/-- The geometry class of a location (20_memory R48). -/
inductive LocClass
  | area
  | line
  | point
deriving DecidableEq, Repr

/-- A reference field (20_memory R48): the location code of a record of the same country and table as the record that holds
it, whose full key `LocRecord.ref` gives, or none. -/
abbrev LocRef := Option Word

/-- The fields that a location record has for its kind alone (20_memory R48, the column "present for"). -/
inductive LocBody
  | area
  | road
  | segment (road pos neg proad pseg : LocRef)
  | point (road pos neg seg : LocRef) (lat lon : Int) (urban : Bool)
deriving DecidableEq, Repr

/-- A location record (20_memory R48): the fields that every kind has, and those of its kind. -/
structure LocRecord where
  key : LocKey
  cls : LocClass
  type : Int
  subtype : Int
  names : List Int
  area : LocRef
  body : LocBody
deriving DecidableEq, Repr

/-- A group on the GROUPS port or from GROUP_IN (30_encoding R64): valid count, flags, values, bit-time. -/
structure Group where
  vc : Nat
  flags : Vector Bool 4
  values : Vector Word 4
  bt : BitTime
deriving DecidableEq, Repr

/-- What a group-type row reads of its group once block 1 is valid (30_encoding R66): TP, PTY and X of block 1, and the
flags, values and bit-time of the rest. -/
structure GroupFields where
  tp : Bool
  pty : BitVec 5
  x : BitVec 5
  f0 : Bool
  f2 : Bool
  f3 : Bool
  v0 : Word
  b2 : Word
  b3 : Word
  bt : BitTime
deriving DecidableEq, Repr

/-- The instructions: one constructor per row of spec/opcode_table.json. -/
inductive Instr
  /-- Illegal op code 0x0 (30_encoding R60, 60_exceptions R156). -/
  | reserved0
  /-- RESET (70_reset_and_hazards R163). -/
  | reset
  /-- BIT (41_synchronizer R87). -/
  | bit (b : Bool)
  /-- EOS (41_synchronizer R93). -/
  | eos
  /-- GROUP_IN (41_synchronizer R94). -/
  | groupIn (flags : Vector Bool 4) (values : Vector Word 4) (bt : BitTime)
  /-- SNAPSHOT (20_memory R58). -/
  | snapshot
  /-- LOC_OFFSET (45_location R145). -/
  | locOffset (dir : Dir) (key : LocKey) (extent : BitVec 32)
  /-- LOC_ENCLOSING (45_location R146). -/
  | locEnclosing (self : LocKey) (secondary : Option LocKey)
  /-- LOC_COMPARE (45_location R147). -/
  | locCompare (neg : Bool) (lhs rhs : LocKey)
  /-- Illegal op code 0x9 (30_encoding R60, 60_exceptions R156). -/
  | reserved9
  /-- Illegal op code 0xA (30_encoding R60, 60_exceptions R156). -/
  | reservedA
  /-- Illegal op code 0xB (30_encoding R60, 60_exceptions R156). -/
  | reservedB
  /-- Illegal op code 0xC (30_encoding R60, 60_exceptions R156). -/
  | reservedC
  /-- Illegal op code 0xD (30_encoding R60, 60_exceptions R156). -/
  | reservedD
  /-- Illegal op code 0xE (30_encoding R60, 60_exceptions R156). -/
  | reservedE
  /-- Illegal op code 0xF (30_encoding R60, 60_exceptions R156). -/
  | reservedF
  /-- Group type 0A (30_encoding R68, R110). -/
  | group0A (g : GroupFields)
  /-- Group type 0B (30_encoding R68, R110). -/
  | group0B (g : GroupFields)
  /-- Group type 1A (30_encoding R68, R112). -/
  | group1A (g : GroupFields)
  /-- Group type 1B (30_encoding R68, R125). -/
  | group1B (g : GroupFields)
  /-- Group type 2A (30_encoding R68, R113). -/
  | group2A (g : GroupFields)
  /-- Group type 2B (30_encoding R68, R125). -/
  | group2B (g : GroupFields)
  /-- Group type 3A (30_encoding R68, R115). -/
  | group3A (g : GroupFields)
  /-- Group type 3B (30_encoding R68, R125). -/
  | group3B (g : GroupFields)
  /-- Group type 4A (30_encoding R68, R119). -/
  | group4A (g : GroupFields)
  /-- Group type 4B (30_encoding R68, R125). -/
  | group4B (g : GroupFields)
  /-- Group type 5A (30_encoding R68, R117). -/
  | group5A (g : GroupFields)
  /-- Group type 5B (30_encoding R68, R125). -/
  | group5B (g : GroupFields)
  /-- Group type 6A (30_encoding R68, R117). -/
  | group6A (g : GroupFields)
  /-- Group type 6B (30_encoding R68, R125). -/
  | group6B (g : GroupFields)
  /-- Group type 7A (30_encoding R68, R118). -/
  | group7A (g : GroupFields)
  /-- Group type 7B (30_encoding R68, R125). -/
  | group7B (g : GroupFields)
  /-- Group type 8A (30_encoding R68, R117). -/
  | group8A (g : GroupFields)
  /-- Group type 8B (30_encoding R68, R125). -/
  | group8B (g : GroupFields)
  /-- Group type 9A (30_encoding R68, R117). -/
  | group9A (g : GroupFields)
  /-- Group type 9B (30_encoding R68, R125). -/
  | group9B (g : GroupFields)
  /-- Group type 10A (30_encoding R68, R117). -/
  | group10A (g : GroupFields)
  /-- Group type 10B (30_encoding R68, R125). -/
  | group10B (g : GroupFields)
  /-- Group type 11A (30_encoding R68, R117). -/
  | group11A (g : GroupFields)
  /-- Group type 11B (30_encoding R68, R125). -/
  | group11B (g : GroupFields)
  /-- Group type 12A (30_encoding R68, R117). -/
  | group12A (g : GroupFields)
  /-- Group type 12B (30_encoding R68, R125). -/
  | group12B (g : GroupFields)
  /-- Group type 13A (30_encoding R68, R117). -/
  | group13A (g : GroupFields)
  /-- Group type 13B (30_encoding R68, R125). -/
  | group13B (g : GroupFields)
  /-- Group type 14A (30_encoding R68, R121). -/
  | group14A (g : GroupFields)
  /-- Group type 14B (30_encoding R68, R123). -/
  | group14B (g : GroupFields)
  /-- Group type 15A (30_encoding R68, R125). -/
  | group15A (g : GroupFields)
  /-- Group type 15B (30_encoding R68, R124). -/
  | group15B (g : GroupFields)
  /-- TMC form TUNING (30_encoding R69, 44_tmc R141). -/
  | tmcTuning (slot : Slot) (n : BitVec 4) (b2 b3 : Word)
  /-- TMC form SINGLE (30_encoding R69, 44_tmc R129). -/
  | tmcSingle (slot : Slot) (dp : BitVec 3) (div dir : Bool) (ext : BitVec 3) (evt : BitVec 11) (loc : Word) (bt : BitTime)
  /-- TMC form FIRST (30_encoding R69, 44_tmc R130). -/
  | tmcFirst (slot : Slot) (ci : BitVec 3) (dir : Bool) (ext : BitVec 3) (evt : BitVec 11) (loc : Word)
  /-- TMC form SUBSEQUENT (30_encoding R69, 44_tmc R131). -/
  | tmcSubsequent (slot : Slot) (ci : BitVec 3) (sg : Bool) (gsi : BitVec 2) (free12 : BitVec 12) (free16 : Word) (bt : BitTime)
  /-- Alert-C label 0: duration (30_encoding R73, 44_tmc R136). -/
  | alertcL0 (slot : Slot) (val : BitVec 3)
  /-- Alert-C label 1: control code (30_encoding R73, 44_tmc R137). -/
  | alertcL1 (slot : Slot) (val : BitVec 3)
  /-- Alert-C label 2: length of route affected (30_encoding R73, 44_tmc R138). -/
  | alertcL2 (slot : Slot) (val : BitVec 5)
  /-- Alert-C label 3: speed limit (30_encoding R73, 44_tmc R136). -/
  | alertcL3 (slot : Slot) (val : BitVec 5)
  /-- Alert-C label 4: quantifier (5-bit) (30_encoding R73, 44_tmc R136). -/
  | alertcL4 (slot : Slot) (val : BitVec 5)
  /-- Alert-C label 5: quantifier (8-bit) (30_encoding R73, 44_tmc R136). -/
  | alertcL5 (slot : Slot) (val : BitVec 8)
  /-- Alert-C label 6: supplementary information code (30_encoding R73, 44_tmc R136). -/
  | alertcL6 (slot : Slot) (val : BitVec 8)
  /-- Alert-C label 7: explicit start or stop time; consumed, no field (30_encoding R73, 44_tmc R136). -/
  | alertcL7 (slot : Slot) (val : BitVec 8)
  /-- Alert-C label 8: explicit stop time; consumed, no field (30_encoding R73, 44_tmc R136). -/
  | alertcL8 (slot : Slot) (val : BitVec 8)
  /-- Alert-C label 9: additional event; consumed, no field (30_encoding R73, 44_tmc R136). -/
  | alertcL9 (slot : Slot) (val : BitVec 11)
  /-- Alert-C label 10: detailed diversion instructions; consumed, no field (30_encoding R73, 44_tmc R136). -/
  | alertcL10 (slot : Slot) (val : BitVec 16)
  /-- Alert-C label 11: destination; consumed, no field (30_encoding R73, 44_tmc R136). -/
  | alertcL11 (slot : Slot) (val : BitVec 16)
  /-- Alert-C label 12: reserved; consumed, no field (30_encoding R73, 44_tmc R136). -/
  | alertcL12 (slot : Slot) (val : BitVec 16)
  /-- Alert-C label 13: cross-linkage to source of problem; consumed, no field (30_encoding R73, 44_tmc R136). -/
  | alertcL13 (slot : Slot) (val : BitVec 16)
  /-- Alert-C label 14: separator; consumed, no field (30_encoding R73, 44_tmc R136). -/
  | alertcL14 (slot : Slot)
  /-- Alert-C label 15: reserved; consumed, no field (30_encoding R73, 44_tmc R136). -/
  | alertcL15 (slot : Slot)
  /-- 14A variant 0: PS(ON) segment 0 (43_group_types R122). -/
  | eon14aV0 (piOn b2 : Word)
  /-- 14A variant 1: PS(ON) segment 1 (43_group_types R122). -/
  | eon14aV1 (piOn b2 : Word)
  /-- 14A variant 2: PS(ON) segment 2 (43_group_types R122). -/
  | eon14aV2 (piOn b2 : Word)
  /-- 14A variant 3: PS(ON) segment 3 (43_group_types R122). -/
  | eon14aV3 (piOn b2 : Word)
  /-- 14A variant 4: AF(ON) method A (43_group_types R122). -/
  | eon14aV4 (piOn b2 : Word)
  /-- 14A variant 5: mapped FM pair (43_group_types R122). -/
  | eon14aV5 (piOn b2 : Word)
  /-- 14A variant 6: mapped FM pair (43_group_types R122). -/
  | eon14aV6 (piOn b2 : Word)
  /-- 14A variant 7: mapped FM pair (43_group_types R122). -/
  | eon14aV7 (piOn b2 : Word)
  /-- 14A variant 8: mapped FM pair (43_group_types R122). -/
  | eon14aV8 (piOn b2 : Word)
  /-- 14A variant 9: mapped LF/MF pair (43_group_types R122). -/
  | eon14aV9 (piOn b2 : Word)
  /-- 14A variant 10: unallocated, ignored (43_group_types R122). -/
  | eon14aV10 (piOn b2 : Word)
  /-- 14A variant 11: unallocated, ignored (43_group_types R122). -/
  | eon14aV11 (piOn b2 : Word)
  /-- 14A variant 12: linkage (43_group_types R122). -/
  | eon14aV12 (piOn b2 : Word)
  /-- 14A variant 13: PTY(ON)/TA(ON) (43_group_types R122). -/
  | eon14aV13 (piOn b2 : Word)
  /-- 14A variant 14: PIN(ON) (43_group_types R122). -/
  | eon14aV14 (piOn b2 : Word)
  /-- 14A variant 15: reserved, ignored (43_group_types R122). -/
  | eon14aV15 (piOn b2 : Word)
  /-- TMC tuning variant 0: no effect (44_tmc R141). -/
  | tmcTuningV0 (slot : Slot) (b2 b3 : Word)
  /-- TMC tuning variant 1: no effect (44_tmc R141). -/
  | tmcTuningV1 (slot : Slot) (b2 b3 : Word)
  /-- TMC tuning variant 2: no effect (44_tmc R141). -/
  | tmcTuningV2 (slot : Slot) (b2 b3 : Word)
  /-- TMC tuning variant 3: no effect (44_tmc R141). -/
  | tmcTuningV3 (slot : Slot) (b2 b3 : Word)
  /-- TMC tuning variant 4: provider name 0..3 (44_tmc R141). -/
  | tmcTuningV4 (slot : Slot) (b2 b3 : Word)
  /-- TMC tuning variant 5: provider name 4..7 (44_tmc R141). -/
  | tmcTuningV5 (slot : Slot) (b2 b3 : Word)
  /-- TMC tuning variant 6: other-network AF pair (44_tmc R141). -/
  | tmcTuningV6 (slot : Slot) (b2 b3 : Word)
  /-- TMC tuning variant 7: other-network AF pair (44_tmc R141). -/
  | tmcTuningV7 (slot : Slot) (b2 b3 : Word)
  /-- TMC tuning variant 8: no effect (44_tmc R141). -/
  | tmcTuningV8 (slot : Slot) (b2 b3 : Word)
  /-- TMC tuning variant 9: no effect (44_tmc R141). -/
  | tmcTuningV9 (slot : Slot) (b2 b3 : Word)
  /-- TMC tuning variant 10: no effect (44_tmc R141). -/
  | tmcTuningV10 (slot : Slot) (b2 b3 : Word)
  /-- TMC tuning variant 11: no effect (44_tmc R141). -/
  | tmcTuningV11 (slot : Slot) (b2 b3 : Word)
  /-- TMC tuning variant 12: no effect (44_tmc R141). -/
  | tmcTuningV12 (slot : Slot) (b2 b3 : Word)
  /-- TMC tuning variant 13: no effect (44_tmc R141). -/
  | tmcTuningV13 (slot : Slot) (b2 b3 : Word)
  /-- TMC tuning variant 14: no effect (44_tmc R141). -/
  | tmcTuningV14 (slot : Slot) (b2 b3 : Word)
  /-- TMC tuning variant 15: no effect (44_tmc R141). -/
  | tmcTuningV15 (slot : Slot) (b2 b3 : Word)
deriving DecidableEq, Repr

/-- One command at the port (30_encoding R60): the command word and the operand lines; a command reads only its own. -/
structure Frame where
  word : BitVec 8
  values : Vector Word 4
  bt : BitTime
  extent : BitVec 32
  keyA : LocKey
  keyB : LocKey
  keyBValid : Bool
deriving DecidableEq, Repr

/-- The encoded forms the block's decoders read, one constructor per decode table of spec/opcode_table.json. -/
inductive Code
  /-- A command word with its operands (30_encoding R60). -/
  | command (f : Frame)
  /-- A group, decoded by block 1 (30_encoding R68). -/
  | group (g : Group)
  /-- A group forwarded to the TMC instance of `slot` (30_encoding R69). -/
  | tmc (slot : Slot) (g : Group)
  /-- A record of the bit queue of `slot`, oldest bit first (30_encoding R73). -/
  | record (slot : Slot) (bits : List Bool)
  /-- The variant field, PI(ON) and block 2 of a 14A group (43_group_types R122). -/
  | eon (n : BitVec 4) (piOn b2 : Word)
  /-- The variant field and the blocks of a TUNING group (44_tmc R141). -/
  | tuning (slot : Slot) (n : BitVec 4) (b2 b3 : Word)
deriving DecidableEq, Repr

/-- Why a decoder reads no instruction. -/
inductive DecodeError
  /-- Block 1 is invalid, so the group has no type (42_group_dispatch R102). -/
  | block1Invalid
  /-- A 3A forward carries nothing for TMCQ (44_tmc R127). -/
  | announcement
  /-- A TMC group without all of blocks 1, 2 and 3 is ignored (44_tmc R128). -/
  | blocksMissing
  /-- The record at the head of the queue is not complete (44_tmc R135). -/
  | incompleteRecord
  /-- More bits than one record. -/
  | trailingBits
deriving DecidableEq, Repr

end Sys2Proof
end

