-- ==== Sys2Proof/Config.lean ====
section
/-! DEFINITION. The configuration of the block (spec 00_scope R8 and R9): the constants the spec fixes, and the OPEN
parameters, which are opaque: nothing can evaluate them. -/

namespace Sys2Proof.Config

/-- SYNC_THRESHOLD (00_scope R8). -/
def syncThreshold : Nat := 2

/-- SYNC_CONFIRM_BITS (00_scope R8). -/
def syncConfirmBits : Nat := 520

/-- SYNC_LOSS_GROUPS (00_scope R8). -/
def syncLossGroups : Nat := 10

/-- ACQ_GUARD (00_scope R9, 41_synchronizer R88). -/
def acqGuard : Nat := 26

/-- PS_HIST_CAP (00_scope R9). -/
def psHistCap : Nat := 8

/-- RT_ARCHIVE_DEPTH (00_scope R9). -/
def rtArchiveDepth : Nat := 8

/-- EON_CAP (00_scope R9), which also bounds ONAF (44_tmc R141). -/
def eonCap : Nat := 32

/-- The cap of the MAPPED and ONAF triple lists (10_state R37 and R39). -/
def tripleCap : Nat := 16

/-- AF_STATE (10_state R34), OPEN: the codes of an unknown countable type. DESIGN CHOICE, safe (log 9). -/
abbrev AfState := Nat

/-- AF_INIT (10_state R34), OPEN. -/
opaque afInit : AfState

/-- AF_UPDATE (43_group_types R111), OPEN: a total function of the state, the two codes and the tuned frequency. -/
opaque afUpdate : AfState → Byte → Byte → Option Nat → AfState

/-- PAGING_STATE (10_state R41), OPEN: the codes of an unknown countable type. DESIGN CHOICE, safe (log 10). -/
abbrev PagingState := Nat

/-- PAGING_INIT (10_state R41), OPEN. -/
opaque pagingInit : PagingState

/-- PAGING_DECODE (43_group_types R118), OPEN: a total function of the state, the address, the flags, the values and bt. -/
opaque pagingDecode : PagingState → BitVec 3 → Vector Bool 4 → Vector Word 4 → BitTime → PagingState

/-- A kind of ODA handler (43_group_types R116): TMC, or a kind that a platform adds, known by a number. -/
inductive HandlerKind
  | tmc
  | platform (n : Nat)
deriving DecidableEq, Repr

/-- The instance state of a platform's handler, OPEN: the codes of an unknown countable type. DESIGN CHOICE (log 12). -/
abbrev HandlerState := Nat

/-- NEW_HANDLER of a platform's kind (43_group_types R116), OPEN: the created instance. -/
opaque handlerInit : Nat → HandlerState

/-- RECV(t, v, flags, values, bt) of a platform's kind (43_group_types R116), OPEN: a total function of the kind, the
instance and the group. -/
opaque handlerRecv : Nat → HandlerState → Slot → Vector Bool 4 → Vector Word 4 → BitTime → HandlerState

/-- The extensions of HANDLER_OF (43_group_types R116), OPEN: the value `State.reset` holds. -/
opaque handlers : List (Word × HandlerKind)

/-- PI_TOLERANCE (42_group_dispatch R100), OPEN: the value `State.reset` holds. -/
opaque piTolerance : Nat

/-- TMC_CID (44_tmc R140), OPEN: the value `State.reset` holds. -/
opaque tmcCid : Nat

/-- TMC_LTN (44_tmc R140), OPEN: the value `State.reset` holds. -/
opaque tmcLtn : Nat

/-- TMC_EXTENT_DIR at 0 is NEG when this is true (44_tmc R140), OPEN: the value `State.reset` holds. -/
opaque extentDir0Neg : Bool

/-- TMC_EXTENT_DIR at 1 is NEG when this is true (44_tmc R140), OPEN: the value `State.reset` holds. -/
opaque extentDir1Neg : Bool

/-- Which of several history entries with the same count and the same recency a PS unit evicts or shows: the spec does
not say (43_group_types R108 and R109). A free value, DESIGN CHOICE, safe (log 25): the argument is the tied positions. -/
opaque psTie : List Nat → Nat

end Sys2Proof.Config
end

