-- ==== Sys2Proof/WellFormed.lean ====
section
/-! DEFINITION. Well-formed instructions. The operand types carry the widths; what remains is that a TMC row names a slot
whose instance can receive forwarded groups. -/

namespace Sys2Proof

/-- Only 5A to 13A groups are forwarded to a handler (43_group_types R115 and R117). -/
def Slot.forwarded (s : Slot) : Bool :=
  decide (5 ≤ s.type.toNat) && decide (s.type.toNat ≤ 13) && decide (s.ver = .A)

/-- The slot a row of the three TMC tables acts on. -/
def Instr.slot? : Instr → Option Slot
  | .tmcTuning s _ _ _ | .tmcSingle s _ _ _ _ _ _ _ | .tmcFirst s _ _ _ _ _ | .tmcSubsequent s _ _ _ _ _ _ => some s
  | .alertcL0 s _ | .alertcL1 s _ | .alertcL2 s _ | .alertcL3 s _ | .alertcL4 s _ | .alertcL5 s _ => some s
  | .alertcL6 s _ | .alertcL7 s _ | .alertcL8 s _ | .alertcL9 s _ | .alertcL10 s _ | .alertcL11 s _ => some s
  | .alertcL12 s _ | .alertcL13 s _ | .alertcL14 s | .alertcL15 s => some s
  | .tmcTuningV0 s _ _ | .tmcTuningV1 s _ _ | .tmcTuningV2 s _ _ | .tmcTuningV3 s _ _ => some s
  | .tmcTuningV4 s _ _ | .tmcTuningV5 s _ _ | .tmcTuningV6 s _ _ | .tmcTuningV7 s _ _ => some s
  | .tmcTuningV8 s _ _ | .tmcTuningV9 s _ _ | .tmcTuningV10 s _ _ | .tmcTuningV11 s _ _ => some s
  | .tmcTuningV12 s _ _ | .tmcTuningV13 s _ _ | .tmcTuningV14 s _ _ | .tmcTuningV15 s _ _ => some s
  | .reserved0 | .reset | .bit _ | .eos | .groupIn _ _ _ | .snapshot | .locOffset _ _ _ | .locEnclosing _ _ => none
  | .locCompare _ _ _ | .reserved9 | .reservedA | .reservedB | .reservedC | .reservedD | .reservedE | .reservedF => none
  | .group0A _ | .group0B _ | .group1A _ | .group1B _ | .group2A _ | .group2B _ | .group3A _ | .group3B _ => none
  | .group4A _ | .group4B _ | .group5A _ | .group5B _ | .group6A _ | .group6B _ | .group7A _ | .group7B _ => none
  | .group8A _ | .group8B _ | .group9A _ | .group9B _ | .group10A _ | .group10B _ | .group11A _ | .group11B _ => none
  | .group12A _ | .group12B _ | .group13A _ | .group13B _ | .group14A _ | .group14B _ | .group15A _ | .group15B _ => none
  | .eon14aV0 _ _ | .eon14aV1 _ _ | .eon14aV2 _ _ | .eon14aV3 _ _ | .eon14aV4 _ _ | .eon14aV5 _ _ | .eon14aV6 _ _ | .eon14aV7 _ _ => none
  | .eon14aV8 _ _ | .eon14aV9 _ _ | .eon14aV10 _ _ | .eon14aV11 _ _ | .eon14aV12 _ _ | .eon14aV13 _ _ | .eon14aV14 _ _ | .eon14aV15 _ _ => none

/-- An instruction is well formed when the slot it names, if any, can receive forwarded groups. -/
def Instr.wf (i : Instr) : Bool :=
  match i.slot? with
  | some s => s.forwarded
  | none => true

end Sys2Proof
end

