-- ==== Sys2Proof/Decode.lean ====
section
/-! DEFINITION. The decoders of the block, each total, and after them the encoder. Every field position is that of
30_encoding R60 to R73; bit helpers stand here so that they are said once. -/

namespace Sys2Proof

/-! ## Bit helpers -/

/-- The first character or code of a block value: b[15:8] (20_memory R51). -/
def hiByte (b : Word) : Byte := b.extractLsb' 8 8

/-- The second character or code of a block value: b[7:0] (20_memory R51). -/
def loByte (b : Word) : Byte := b.extractLsb' 0 8

/-- The low `n` bits of `x`, most significant first (44_tmc R133, QPush). -/
def bitsMsb : Nat → Nat → List Bool
  | 0, _ => []
  | n + 1, x => x.testBit n :: bitsMsb n x

/-- A bit string read as an unsigned number, first bit most significant (44_tmc R133, QPeek). -/
def bitsVal : List Bool → Nat
  | [] => 0
  | b :: bs => b.toNat * 2 ^ bs.length + bitsVal bs

/-- popcount of a flag vector (00_scope R11). -/
def popcount (f : Vector Bool 4) : Nat :=
  f[0].toNat + f[1].toNat + f[2].toNat + f[3].toNat

/-- The version bit: A is 0 and B is 1 (30_encoding R66). -/
def Ver.bit : Ver → Bool
  | .A => false
  | .B => true

/-- The version of a version bit (30_encoding R66). -/
def Ver.ofBit (b : Bool) : Ver := if b then .B else .A

/-! ## Block 1 and groups -/

/-- The (type, version) of block 1: b1[15:12] and b1[11] (30_encoding R66). -/
def Slot.ofB1 (b1 : Word) : Slot := ⟨b1.extractLsb' 12 4, Ver.ofBit (b1.getLsbD 11)⟩

/-- Block 1 laid out from its fields (30_encoding R66). -/
def b1Of (slot : Slot) (tp : Bool) (pty x : BitVec 5) : Word :=
  slot.type ++ BitVec.ofBool slot.ver.bit ++ BitVec.ofBool tp ++ pty ++ x

/-- The fields a group-type row reads of its group (30_encoding R66). -/
def Group.fields (g : Group) : GroupFields where
  tp := g.values[1].getLsbD 10
  pty := g.values[1].extractLsb' 5 5
  x := g.values[1].extractLsb' 0 5
  f0 := g.flags[0]
  f2 := g.flags[2]
  f3 := g.flags[3]
  v0 := g.values[0]
  b2 := g.values[2]
  b3 := g.values[3]
  bt := g.bt

/-- A group from its flags, values and bit-time, its valid count computed (30_encoding R61). -/
def Group.of (flags : Vector Bool 4) (values : Vector Word 4) (bt : BitTime) : Group :=
  ⟨popcount flags, flags, values, bt⟩

/-- The group, block 1 valid, of a (type, version) and the other fields (30_encoding R64 and R66). -/
def GroupFields.group (f : GroupFields) (slot : Slot) : Group :=
  Group.of #v[f.f0, true, f.f2, f.f3] #v[f.v0, b1Of slot f.tp f.pty f.x, f.b2, f.b3] f.bt

/-- The group-type row of a (type, version) (30_encoding R68). -/
def groupRow (slot : Slot) (f : GroupFields) : Instr :=
  match slot.ver, slot.type.toNat with
  | .A, 0 => .group0A f
  | .A, 1 => .group1A f
  | .A, 2 => .group2A f
  | .A, 3 => .group3A f
  | .A, 4 => .group4A f
  | .A, 5 => .group5A f
  | .A, 6 => .group6A f
  | .A, 7 => .group7A f
  | .A, 8 => .group8A f
  | .A, 9 => .group9A f
  | .A, 10 => .group10A f
  | .A, 11 => .group11A f
  | .A, 12 => .group12A f
  | .A, 13 => .group13A f
  | .A, 14 => .group14A f
  | .A, _ => .group15A f
  | .B, 0 => .group0B f
  | .B, 1 => .group1B f
  | .B, 2 => .group2B f
  | .B, 3 => .group3B f
  | .B, 4 => .group4B f
  | .B, 5 => .group5B f
  | .B, 6 => .group6B f
  | .B, 7 => .group7B f
  | .B, 8 => .group8B f
  | .B, 9 => .group9B f
  | .B, 10 => .group10B f
  | .B, 11 => .group11B f
  | .B, 12 => .group12B f
  | .B, 13 => .group13B f
  | .B, 14 => .group14B f
  | .B, _ => .group15B f

/-- The GDEC decoder: the row block 1 selects, if block 1 is valid (30_encoding R68, 42_group_dispatch R102). -/
def decodeGroup (g : Group) : Except DecodeError Instr :=
  if g.flags[1] then .ok (groupRow (Slot.ofB1 g.values[1]) g.fields) else .error .block1Invalid

/-! ## TMC forms -/

/-- The TMC form of X, b2 and b3 (30_encoding R69). -/
def tmcForm (slot : Slot) (x : BitVec 5) (b2 b3 : Word) (bt : BitTime) : Instr :=
  if x.getLsbD 4 then .tmcTuning slot (x.extractLsb' 0 4) b2 b3
  else if x.getLsbD 3 then
    .tmcSingle slot (x.extractLsb' 0 3) (b2.getLsbD 15) (b2.getLsbD 14) (b2.extractLsb' 11 3) (b2.extractLsb' 0 11) b3 bt
  else if b2.getLsbD 15 then
    .tmcFirst slot (x.extractLsb' 0 3) (b2.getLsbD 14) (b2.extractLsb' 11 3) (b2.extractLsb' 0 11) b3
  else
    .tmcSubsequent slot (x.extractLsb' 0 3) (b2.getLsbD 14) (b2.extractLsb' 12 2) (b2.extractLsb' 0 12) b3 bt

/-- The TMCQ decoder of a forwarded group (44_tmc R127 and R128): blocks 1, 2 and 3 must be valid, and a 3A forward
carries nothing. -/
def decodeTmc (slot : Slot) (g : Group) : Except DecodeError Instr :=
  if g.flags[1] && g.flags[2] && g.flags[3] then
    if (Slot.ofB1 g.values[1]).type = 3 then .error .announcement
    else .ok (tmcForm slot (g.values[1].extractLsb' 0 5) g.values[2] g.values[3] g.bt)
  else .error .blocksMissing

/-! ## Alert-C records -/

/-- SIZE: the value width of each label (30_encoding R73). -/
def labelSize (label : Nat) : Nat :=
  [3, 3, 5, 5, 5, 8, 8, 8, 8, 11, 16, 16, 16, 16, 0, 0].getD label 0

/-- The record at the head of a bit string: its label, its value and the bits after it; none if it is not complete
(44_tmc R133 and R135). -/
def takeRecord (q : List Bool) : Option (Nat × Nat × List Bool) :=
  if 4 ≤ q.length then
    let label := bitsVal (q.take 4)
    let size := labelSize label
    if 4 + size ≤ q.length then some (label, bitsVal ((q.drop 4).take size), q.drop (4 + size)) else none
  else none

/-- The label row of a record (30_encoding R73). -/
def labelRow (slot : Slot) (label val : Nat) : Instr :=
  match label with
  | 0 => .alertcL0 slot (BitVec.ofNat 3 val)
  | 1 => .alertcL1 slot (BitVec.ofNat 3 val)
  | 2 => .alertcL2 slot (BitVec.ofNat 5 val)
  | 3 => .alertcL3 slot (BitVec.ofNat 5 val)
  | 4 => .alertcL4 slot (BitVec.ofNat 5 val)
  | 5 => .alertcL5 slot (BitVec.ofNat 8 val)
  | 6 => .alertcL6 slot (BitVec.ofNat 8 val)
  | 7 => .alertcL7 slot (BitVec.ofNat 8 val)
  | 8 => .alertcL8 slot (BitVec.ofNat 8 val)
  | 9 => .alertcL9 slot (BitVec.ofNat 11 val)
  | 10 => .alertcL10 slot (BitVec.ofNat 16 val)
  | 11 => .alertcL11 slot (BitVec.ofNat 16 val)
  | 12 => .alertcL12 slot (BitVec.ofNat 16 val)
  | 13 => .alertcL13 slot (BitVec.ofNat 16 val)
  | 14 => .alertcL14 slot
  | _ => .alertcL15 slot

/-- The record decoder: exactly one complete record (30_encoding R73). -/
def decodeRecord (slot : Slot) (bits : List Bool) : Except DecodeError Instr :=
  match takeRecord bits with
  | none => .error .incompleteRecord
  | some (label, val, []) => .ok (labelRow slot label val)
  | some (_, _, _ :: _) => .error .trailingBits

/-! ## Variants of 14A and of TUNING -/

/-- The 14A variant row of X[3:0] (43_group_types R122). -/
def eonRow (n : BitVec 4) (piOn b2 : Word) : Instr :=
  match n.toNat with
  | 0 => .eon14aV0 piOn b2
  | 1 => .eon14aV1 piOn b2
  | 2 => .eon14aV2 piOn b2
  | 3 => .eon14aV3 piOn b2
  | 4 => .eon14aV4 piOn b2
  | 5 => .eon14aV5 piOn b2
  | 6 => .eon14aV6 piOn b2
  | 7 => .eon14aV7 piOn b2
  | 8 => .eon14aV8 piOn b2
  | 9 => .eon14aV9 piOn b2
  | 10 => .eon14aV10 piOn b2
  | 11 => .eon14aV11 piOn b2
  | 12 => .eon14aV12 piOn b2
  | 13 => .eon14aV13 piOn b2
  | 14 => .eon14aV14 piOn b2
  | _ => .eon14aV15 piOn b2

/-- The TMC tuning variant row of X[3:0] (44_tmc R141). -/
def tuningRow (slot : Slot) (n : BitVec 4) (b2 b3 : Word) : Instr :=
  match n.toNat with
  | 0 => .tmcTuningV0 slot b2 b3
  | 1 => .tmcTuningV1 slot b2 b3
  | 2 => .tmcTuningV2 slot b2 b3
  | 3 => .tmcTuningV3 slot b2 b3
  | 4 => .tmcTuningV4 slot b2 b3
  | 5 => .tmcTuningV5 slot b2 b3
  | 6 => .tmcTuningV6 slot b2 b3
  | 7 => .tmcTuningV7 slot b2 b3
  | 8 => .tmcTuningV8 slot b2 b3
  | 9 => .tmcTuningV9 slot b2 b3
  | 10 => .tmcTuningV10 slot b2 b3
  | 11 => .tmcTuningV11 slot b2 b3
  | 12 => .tmcTuningV12 slot b2 b3
  | 13 => .tmcTuningV13 slot b2 b3
  | 14 => .tmcTuningV14 slot b2 b3
  | _ => .tmcTuningV15 slot b2 b3

/-! ## Commands -/

/-- flags[p] of a GROUP_IN word: word[4+p] (30_encoding R60). -/
def wordFlags (w : BitVec 8) : Vector Bool 4 :=
  #v[w.getLsbD 4, w.getLsbD 5, w.getLsbD 6, w.getLsbD 7]

/-- The direction bit of a LOC_OFFSET word: 0 is positive, 1 is negative (30_encoding R60). -/
def Dir.ofBit (b : Bool) : Dir := if b then .neg else .pos

/-- The bit of a direction (30_encoding R60). -/
def Dir.bit : Dir → Bool
  | .pos => false
  | .neg => true

/-- The command decoder: op = word[3:0]; every op code is a row (30_encoding R60). -/
def decodeCommand (f : Frame) : Instr :=
  match (f.word.extractLsb' 0 4).toNat with
  | 0 => .reserved0
  | 1 => .reset
  | 2 => .bit (f.word.getLsbD 4)
  | 3 => .eos
  | 4 => .groupIn (wordFlags f.word) f.values f.bt
  | 5 => .snapshot
  | 6 => .locOffset (Dir.ofBit (f.word.getLsbD 4)) f.keyA f.extent
  | 7 => .locEnclosing f.keyA (if f.keyBValid then some f.keyB else none)
  | 8 => .locCompare (f.word.getLsbD 4) f.keyA f.keyB
  | 9 => .reserved9
  | 10 => .reservedA
  | 11 => .reservedB
  | 12 => .reservedC
  | 13 => .reservedD
  | 14 => .reservedE
  | _ => .reservedF

/-- The decoder of a code: total, rejecting by name. -/
def decode : Code → Except DecodeError Instr
  | .command f => .ok (decodeCommand f)
  | .group g => decodeGroup g
  | .tmc slot g => decodeTmc slot g
  | .record slot bits => decodeRecord slot bits
  | .eon n piOn b2 => .ok (eonRow n piOn b2)
  | .tuning slot n b2 b3 => .ok (tuningRow slot n b2 b3)

/-! ## The encoder -/

/-- The key 0 on an operand line that a command does not use. -/
def LocKey.zero : LocKey := ⟨0, 0, 0⟩

/-- A command word with zeros on every operand line. -/
def Frame.ofWord (w : BitVec 8) : Frame :=
  ⟨w, Vector.replicate 4 0, 0, 0, LocKey.zero, LocKey.zero, false⟩

/-- A command word: bits 7..4 and the op code (30_encoding R60). -/
def commandWord (hi : BitVec 4) (op : BitVec 4) : BitVec 8 := hi ++ op

/-- Four flags in bits 7..4 of a command word, flags[0] lowest (30_encoding R60). -/
def flagNibble (f : Vector Bool 4) : BitVec 4 :=
  BitVec.ofBool f[3] ++ BitVec.ofBool f[2] ++ BitVec.ofBool f[1] ++ BitVec.ofBool f[0]

/-- One operand bit in bit 4 of a command word (30_encoding R60). -/
def bitNibble (b : Bool) : BitVec 4 := (0 : BitVec 3) ++ BitVec.ofBool b

/-- The group that carries a TMC form in `slot` (30_encoding R69): blocks 1, 2 and 3 valid. -/
def tmcGroup (slot : Slot) (x : BitVec 5) (b2 b3 : Word) (bt : BitTime) : Group :=
  GroupFields.group ⟨false, 0, x, false, true, true, 0, b2, b3, bt⟩ slot

/-- The code of a record: its label and its value, most significant bits first (30_encoding R73). -/
def recordCode (slot : Slot) (label val : Nat) : Code :=
  .record slot (bitsMsb 4 label ++ bitsMsb (labelSize label) val)

/-- The encoder: the code of a well-formed instruction, from the same tables of 30_encoding. -/
def encode : Instr → Code
  | .reserved0 => .command (.ofWord (commandWord 0 0x0))
  | .reset => .command (.ofWord (commandWord 0 0x1))
  | .bit b => .command (.ofWord (commandWord (bitNibble b) 0x2))
  | .eos => .command (.ofWord (commandWord 0 0x3))
  | .groupIn flags values bt =>
    .command { Frame.ofWord (commandWord (flagNibble flags) 0x4) with values := values, bt := bt }
  | .snapshot => .command (.ofWord (commandWord 0 0x5))
  | .locOffset dir key extent =>
    .command { Frame.ofWord (commandWord (bitNibble dir.bit) 0x6) with keyA := key, extent := extent }
  | .locEnclosing self none => .command { Frame.ofWord (commandWord 0 0x7) with keyA := self }
  | .locEnclosing self (some k) =>
    .command { Frame.ofWord (commandWord 0 0x7) with keyA := self, keyB := k, keyBValid := true }
  | .locCompare neg lhs rhs =>
    .command { Frame.ofWord (commandWord (bitNibble neg) 0x8) with keyA := lhs, keyB := rhs, keyBValid := true }
  | .reserved9 => .command (.ofWord (commandWord 0 0x9))
  | .reservedA => .command (.ofWord (commandWord 0 0xA))
  | .reservedB => .command (.ofWord (commandWord 0 0xB))
  | .reservedC => .command (.ofWord (commandWord 0 0xC))
  | .reservedD => .command (.ofWord (commandWord 0 0xD))
  | .reservedE => .command (.ofWord (commandWord 0 0xE))
  | .reservedF => .command (.ofWord (commandWord 0 0xF))
  | .group0A f => .group (f.group ⟨0, .A⟩)
  | .group0B f => .group (f.group ⟨0, .B⟩)
  | .group1A f => .group (f.group ⟨1, .A⟩)
  | .group1B f => .group (f.group ⟨1, .B⟩)
  | .group2A f => .group (f.group ⟨2, .A⟩)
  | .group2B f => .group (f.group ⟨2, .B⟩)
  | .group3A f => .group (f.group ⟨3, .A⟩)
  | .group3B f => .group (f.group ⟨3, .B⟩)
  | .group4A f => .group (f.group ⟨4, .A⟩)
  | .group4B f => .group (f.group ⟨4, .B⟩)
  | .group5A f => .group (f.group ⟨5, .A⟩)
  | .group5B f => .group (f.group ⟨5, .B⟩)
  | .group6A f => .group (f.group ⟨6, .A⟩)
  | .group6B f => .group (f.group ⟨6, .B⟩)
  | .group7A f => .group (f.group ⟨7, .A⟩)
  | .group7B f => .group (f.group ⟨7, .B⟩)
  | .group8A f => .group (f.group ⟨8, .A⟩)
  | .group8B f => .group (f.group ⟨8, .B⟩)
  | .group9A f => .group (f.group ⟨9, .A⟩)
  | .group9B f => .group (f.group ⟨9, .B⟩)
  | .group10A f => .group (f.group ⟨10, .A⟩)
  | .group10B f => .group (f.group ⟨10, .B⟩)
  | .group11A f => .group (f.group ⟨11, .A⟩)
  | .group11B f => .group (f.group ⟨11, .B⟩)
  | .group12A f => .group (f.group ⟨12, .A⟩)
  | .group12B f => .group (f.group ⟨12, .B⟩)
  | .group13A f => .group (f.group ⟨13, .A⟩)
  | .group13B f => .group (f.group ⟨13, .B⟩)
  | .group14A f => .group (f.group ⟨14, .A⟩)
  | .group14B f => .group (f.group ⟨14, .B⟩)
  | .group15A f => .group (f.group ⟨15, .A⟩)
  | .group15B f => .group (f.group ⟨15, .B⟩)
  | .tmcTuning slot n b2 b3 => .tmc slot (tmcGroup slot ((1 : BitVec 1) ++ n) b2 b3 0)
  | .tmcSingle slot dp div dir ext evt loc bt =>
    .tmc slot (tmcGroup slot ((1 : BitVec 2) ++ dp) (BitVec.ofBool div ++ BitVec.ofBool dir ++ ext ++ evt) loc bt)
  | .tmcFirst slot ci dir ext evt loc =>
    .tmc slot (tmcGroup slot ((0 : BitVec 2) ++ ci) ((1 : BitVec 1) ++ BitVec.ofBool dir ++ ext ++ evt) loc 0)
  | .tmcSubsequent slot ci sg gsi free12 free16 bt =>
    .tmc slot (tmcGroup slot ((0 : BitVec 2) ++ ci) ((0 : BitVec 1) ++ BitVec.ofBool sg ++ gsi ++ free12) free16 bt)
  | .alertcL0 slot val => recordCode slot 0 val.toNat
  | .alertcL1 slot val => recordCode slot 1 val.toNat
  | .alertcL2 slot val => recordCode slot 2 val.toNat
  | .alertcL3 slot val => recordCode slot 3 val.toNat
  | .alertcL4 slot val => recordCode slot 4 val.toNat
  | .alertcL5 slot val => recordCode slot 5 val.toNat
  | .alertcL6 slot val => recordCode slot 6 val.toNat
  | .alertcL7 slot val => recordCode slot 7 val.toNat
  | .alertcL8 slot val => recordCode slot 8 val.toNat
  | .alertcL9 slot val => recordCode slot 9 val.toNat
  | .alertcL10 slot val => recordCode slot 10 val.toNat
  | .alertcL11 slot val => recordCode slot 11 val.toNat
  | .alertcL12 slot val => recordCode slot 12 val.toNat
  | .alertcL13 slot val => recordCode slot 13 val.toNat
  | .alertcL14 slot => recordCode slot 14 0
  | .alertcL15 slot => recordCode slot 15 0
  | .eon14aV0 piOn b2 => .eon 0 piOn b2
  | .eon14aV1 piOn b2 => .eon 1 piOn b2
  | .eon14aV2 piOn b2 => .eon 2 piOn b2
  | .eon14aV3 piOn b2 => .eon 3 piOn b2
  | .eon14aV4 piOn b2 => .eon 4 piOn b2
  | .eon14aV5 piOn b2 => .eon 5 piOn b2
  | .eon14aV6 piOn b2 => .eon 6 piOn b2
  | .eon14aV7 piOn b2 => .eon 7 piOn b2
  | .eon14aV8 piOn b2 => .eon 8 piOn b2
  | .eon14aV9 piOn b2 => .eon 9 piOn b2
  | .eon14aV10 piOn b2 => .eon 10 piOn b2
  | .eon14aV11 piOn b2 => .eon 11 piOn b2
  | .eon14aV12 piOn b2 => .eon 12 piOn b2
  | .eon14aV13 piOn b2 => .eon 13 piOn b2
  | .eon14aV14 piOn b2 => .eon 14 piOn b2
  | .eon14aV15 piOn b2 => .eon 15 piOn b2
  | .tmcTuningV0 slot b2 b3 => .tuning slot 0 b2 b3
  | .tmcTuningV1 slot b2 b3 => .tuning slot 1 b2 b3
  | .tmcTuningV2 slot b2 b3 => .tuning slot 2 b2 b3
  | .tmcTuningV3 slot b2 b3 => .tuning slot 3 b2 b3
  | .tmcTuningV4 slot b2 b3 => .tuning slot 4 b2 b3
  | .tmcTuningV5 slot b2 b3 => .tuning slot 5 b2 b3
  | .tmcTuningV6 slot b2 b3 => .tuning slot 6 b2 b3
  | .tmcTuningV7 slot b2 b3 => .tuning slot 7 b2 b3
  | .tmcTuningV8 slot b2 b3 => .tuning slot 8 b2 b3
  | .tmcTuningV9 slot b2 b3 => .tuning slot 9 b2 b3
  | .tmcTuningV10 slot b2 b3 => .tuning slot 10 b2 b3
  | .tmcTuningV11 slot b2 b3 => .tuning slot 11 b2 b3
  | .tmcTuningV12 slot b2 b3 => .tuning slot 12 b2 b3
  | .tmcTuningV13 slot b2 b3 => .tuning slot 13 b2 b3
  | .tmcTuningV14 slot b2 b3 => .tuning slot 14 b2 b3
  | .tmcTuningV15 slot b2 b3 => .tuning slot 15 b2 b3

/-! ## Words of spec/opcode_table.json -/

/-- The group of a 16-bit table word: blocks 1, 2 and 3 valid, block 1 the word, the others zero (log 14). -/
def groupOfTableWord (w : Nat) : Group :=
  Group.of #v[false, true, true, true] #v[0, BitVec.ofNat 16 w, 0, 0] 0

/-- The slot 8A, in which a table word of a TMC form is run (log 14). -/
def tableSlot : Slot := ⟨8, .A⟩

/-- The 8A group of a 21-bit table word X[4:0] << 16 | b2 (log 14). -/
def tmcGroupOfTableWord (w : Nat) : Group :=
  tmcGroup tableSlot (BitVec.ofNat 5 (w / 65536)) (BitVec.ofNat 16 w) 0 0

/-- The instruction the decoders read from a table word: a word of one byte is a command word, of two bytes block 1 of a
group, of three bytes the key of a TMC form. The 4-bit words of the other three tables are the same bits as the command
words and read as commands (log 14). -/
def decodeTableWord (nbits w : Nat) : Option Instr :=
  if nbits ≤ 8 then some (decodeCommand (.ofWord (BitVec.ofNat 8 w)))
  else if nbits ≤ 16 then (decodeGroup (groupOfTableWord w)).toOption
  else if nbits ≤ 24 then (decodeTmc tableSlot (tmcGroupOfTableWord w)).toOption
  else none

end Sys2Proof
end

