-- ==== Sys2Proof/Machine/State.lean ====
section
/-! DEFINITION. The state of the block (spec 10_state), its reset value (70_reset_and_hazards R164), and the reasons a step
stops. State is plain data: every field the spec names, and the model's own fields, which say so. -/

namespace Sys2Proof.Machine

open Sys2Proof

/-! ## Character cells and the PS and RT units -/

/-- A character cell: null or an 8-bit code (43_group_types R107). -/
abbrev Cell := Option Byte

/-- An entry of the PS history: a complete value, its count and its recency stamp (10_state R32). -/
structure PsEntry where
  value : Vector Byte 8
  count : BitVec 32
  recency : BitVec 32
deriving DecidableEq, Repr

/-- The PS unit (10_state R32), of the station and of each OtherNetwork. -/
structure PsUnit where
  cur : Vector Cell 8
  hist : List PsEntry
  stamp : BitVec 32
deriving DecidableEq, Repr

/-- The RT unit (10_state R33): the archive is oldest first. -/
structure RtUnit where
  buf : Vector Cell 64
  flag : Option Bool
  arch : List (Vector Cell 64)
deriving DecidableEq, Repr

/-- The clock record (10_state R36). -/
structure Clock where
  mjd : BitVec 17
  year : Int
  month : Int
  day : Int
  hour : BitVec 5
  minute : BitVec 6
  off : Int
  lyear : Int
  lmonth : Int
  lday : Int
  lhour : Int
  lminute : Int
deriving DecidableEq, Repr

/-! ## Other networks -/

/-- A mapped-frequency triple (n, code1, code2) (10_state R37), or an ONAF triple (code1, code2, tag) (10_state R39). -/
structure FreqTriple where
  tag : BitVec 4
  code1 : Byte
  code2 : Byte
deriving DecidableEq, Repr

/-- An OtherNetwork record (10_state R37). -/
structure OtherNetwork where
  pi : Word
  ps : PsUnit
  af : Config.AfState
  mapped : List FreqTriple
  pty : Option (BitVec 5)
  ta : Option Bool
  tp : Option Bool
  pin : Option Word
  linkage : Option Word
deriving DecidableEq, Repr

/-! ## TMC -/

/-- The length of route affected: km or more than 100 km (44_tmc R138). -/
inductive RouteLength
  | km (n : Nat)
  | gt100
deriving DecidableEq, Repr

/-- The quantifier pair: the label (4 or 5) and the raw value (10_state R40). -/
inductive Quantifier
  | label4 (val : BitVec 5)
  | label5 (val : BitVec 8)
deriving DecidableEq, Repr

/-- A TMC message record (10_state R40). -/
structure TmcMsg where
  single : Bool
  dir : Bool
  ext : BitVec 5
  evt : BitVec 11
  loc : Word
  ci : Option (BitVec 3)
  dp : Option (BitVec 3)
  div : Bool
  dur : Option (BitVec 3)
  urg : Int
  dirch : Bool
  dynch : Bool
  spkch : Bool
  len : Option RouteLength
  spd : Option Nat
  qty : Option Quantifier
  si : Option Byte
  nf : BitVec 32
  rloc : Option LocKey
  rsec : Option LocKey
deriving DecidableEq, Repr

/-- An ONAF entry: PI(ON) and its triples, oldest first (10_state R39). -/
structure OnafEntry where
  pi : Word
  triples : List FreqTriple
deriving DecidableEq, Repr

/-- A TMC handler instance (10_state R39); `q` is the bit queue, oldest bit first. -/
structure TmcInst where
  msg : Option TmcMsg
  ci : Option (BitVec 3)
  next : Option Nat
  total : Option Nat
  q : List Bool
  prov : Vector Cell 8
  onaf : List OnafEntry
deriving DecidableEq, Repr

/-- A handler instance (43_group_types R116): TMC's, or one of a platform's kind (log 12). -/
inductive Handler
  | tmc (t : TmcInst)
  | platform (n : Nat) (state : Config.HandlerState)
deriving DecidableEq, Repr

/-- The content of an ODA slot: the Application ID and the handler instance, if any (10_state R38). -/
structure OdaSlot where
  aid : Word
  handler : Option Handler
deriving DecidableEq, Repr

/-! ## The station -/

/-- The Station record ST (10_state R29 to R38). `gstat` and `slot` are indexed by `slotIndex`. -/
structure Station where
  pi : Word
  lastSeen : BitTime
  gstat : Vector (BitVec 32) 32
  unknown : BitVec 32
  tp : Option Bool
  ta : Option Bool
  ms : Option Bool
  di : Vector (Option Bool) 4
  pty : Option (BitVec 5)
  ps : PsUnit
  rt : RtUnit
  af : Config.AfState
  pagingCfg : Option (BitVec 5)
  pin : Option Word
  ecc : Option Byte
  pagingOpc : Option (BitVec 4)
  slc : Vector (Option (BitVec 12)) 8
  clock : Option Clock
  eon : List OtherNetwork
  slot : Vector (Option OdaSlot) 32
deriving DecidableEq, Repr

/-! ## Outputs -/

/-- The kind and payload of a log event (30_encoding R71). -/
inductive EventKind
  | tuned (pi : Word)
  | lost (pi : Word)
  | clock (c : Clock)
  | eonSwitch (pi : Word)
  | eonReturn (pi : Word)
  | eos
deriving DecidableEq, Repr

/-- A log event (30_encoding R71). -/
structure Event where
  bt : BitTime
  kind : EventKind
deriving DecidableEq, Repr

/-- A SYNCLOG record (10_state R42). -/
inductive SyncRecord
  | acquired (bt : BitTime) (p : Fin 4)
  | lostSync (bt : BitTime)
deriving DecidableEq, Repr

/-- A TMCOUT record: a completed message and its bit-time (44_tmc R139). -/
structure TmcOut where
  bt : BitTime
  msg : TmcMsg
deriving DecidableEq, Repr

/-! ## The engine -/

/-- The framing state (10_state R17). -/
inductive Sync
  | unsynced
  | synced
deriving DecidableEq, Repr

/-- The fault reasons (60_exceptions R156). -/
inductive FaultReason
  | badOp
  | ltCycle
deriving DecidableEq, Repr

/-- FAULT, the sticky set of fault reasons (10_state R26). -/
structure FaultSet where
  badOp : Bool
  ltCycle : Bool
deriving DecidableEq, Repr

/-- All the state of 10_state, which SNAPSHOT images (20_memory R58). -/
structure Engine where
  /-- SR (R16). -/
  sr : Codeword
  /-- SYNC (R17). -/
  sync : Sync
  /-- HIST (R18): each bucket oldest first. -/
  hist : Vector (List BitTime) 104
  /-- CUR (R19). -/
  cur : Fin 4
  /-- BCNT (R20). -/
  bcnt : Nat
  /-- BT (R22). -/
  bt : BitTime
  /-- GVAL (R23). -/
  gval : Vector Word 4
  /-- GFLG (R23). -/
  gflg : Vector Bool 4
  /-- BADG (R24). -/
  badg : Nat
  /-- HALTED (R25). -/
  halted : Bool
  /-- FAULT (R26). -/
  fault : FaultSet
  /-- SUPPRESS (R27). -/
  suppress : Bool
  /-- PIMIS (R28). -/
  pimis : Nat
  /-- ST (R29 to R40). -/
  st : Station
  /-- PAGING (R41). -/
  paging : Config.PagingState
  /-- EVENTS (R42). -/
  events : List Event
  /-- GROUPS (R42). -/
  groups : List Group
  /-- SYNCLOG (R42). -/
  synclog : List SyncRecord
  /-- TMCOUT (R42). -/
  tmcout : List TmcOut
deriving DecidableEq, Repr

/-! ## Memory, parameters and the port -/

/-- The order of location keys in LT's canonical form: country, then table, then code. -/
def LocKey.before (a b : LocKey) : Bool :=
  decide (a.cid < b.cid) ||
    (a.cid == b.cid && (decide (a.tabcd < b.tabcd) || (a.tabcd == b.tabcd && decide (a.lcd.toNat < b.lcd.toNat))))

/-- LT, the location table (20_memory R46): a list of records, which stands for a finite map from keys to records. -/
abbrev Memory := List LocRecord

/-- The canonical form of LT: keys strictly rising, so that equal tables are equal lists. -/
abbrev Memory.wf (m : Memory) : Prop := m.Pairwise fun a b => LocKey.before a.key b.key = true

/-- The OPEN parameters that are plain data (00_scope R9): fixed for the life of an instance (log 7). -/
structure Params where
  piTolerance : Nat
  tmcCid : Nat
  tmcLtn : Nat
  extentDir0 : Dir
  extentDir1 : Dir
  /-- The extensions of HANDLER_OF: an AID and its handler kind (43_group_types R116, U23). -/
  handlers : List (Word × Config.HandlerKind)
deriving DecidableEq, Repr

/-- What the host does at the port, one item a step (log 1). -/
inductive PortItem
  /-- It issues a command (30_encoding R60). -/
  | command (f : Frame)
  /-- It sets TUNED_FREQ, in kHz or none (10_state R45). -/
  | setFreq (khz : Option Nat)
  /-- It tries to change LT (20_memory R59). -/
  | loadTable (lt : Memory)
  /-- It tries to change a parameter other than TUNED_FREQ (70_reset_and_hazards R165). -/
  | setParams (p : Params)
deriving DecidableEq, Repr

/-- What a command returns to the host (MODEL's own, log 4). -/
inductive Reply
  /-- No command has returned yet. -/
  | nothing
  /-- The command has no result of its own. -/
  | done
  /-- SNAPSHOT's image (20_memory R58). -/
  | image (e : Engine)
  /-- A key or none (45_location R145 and R146). -/
  | key (k : Option LocKey)
  /-- -1, 0 or +1 (45_location R147). -/
  | order (i : Int)
  /-- The command raised a fault and returns no result (60_exceptions R156). -/
  | fault (r : FaultReason)
deriving DecidableEq, Repr

/-- The state of the machine: the engine of 10_state, the host's inputs the spec names, and the model's own fields. -/
structure State extends Engine where
  /-- TUNED_FREQ, in kHz (10_state R45). -/
  tunedFreq : Option Nat
  /-- The OPEN parameters (00_scope R9). -/
  params : Params
  /-- LT (20_memory R46). -/
  lt : Memory
  /-- MODEL's own: the host's pending items, oldest first (log 1). -/
  port : List PortItem
  /-- MODEL's own: what the last command returned (log 4). -/
  reply : Reply
deriving DecidableEq, Repr

/-! ## Why a step stops -/

/-- The stops of a step that the spec gives as the absence of a successor state. -/
inductive Fault
  /-- `stuck` (60_exceptions R157): a command other than RESET, SNAPSHOT and the illegal op codes while HALTED = 1.
  Raised by the meanings of BIT, EOS, GROUP_IN, LOC_OFFSET, LOC_ENCLOSING and LOC_COMPARE. Safe. -/
  | stuckHalted
deriving DecidableEq, Repr

/-- What the model refuses. -/
inductive Refusal
  /-- An instruction with no meaning yet; no arm answers it. Safe. -/
  | notModelled (mnemonic : String)
  /-- A change of LT after reset, which the spec tells a model to refuse (20_memory R59, U4). Raised by step. Safe. -/
  | tableChange
  /-- A change of a parameter other than TUNED_FREQ after reset, which the spec tells a model to refuse
  (70_reset_and_hazards R165, U4). Raised by step. Safe. -/
  | parameterChange
deriving DecidableEq, Repr

/-! ## Reset values -/

/-- The fresh PS unit (10_state R32). -/
def PsUnit.fresh : PsUnit := ⟨Vector.replicate 8 none, [], 0⟩

/-- The fresh RT unit (10_state R33). -/
def RtUnit.fresh : RtUnit := ⟨Vector.replicate 64 none, none, []⟩

/-- The fresh OtherNetwork record of a PI (43_group_types R121). -/
def OtherNetwork.fresh (pi : Word) : OtherNetwork :=
  ⟨pi, PsUnit.fresh, Config.afInit, [], none, none, none, none, none⟩

/-- A TMC instance as created (10_state R39). -/
def TmcInst.fresh : TmcInst := ⟨none, none, none, none, [], Vector.replicate 8 none, []⟩

/-- fresh(): the fresh Station (10_state R44). -/
def Station.fresh : Station where
  pi := 0
  lastSeen := 0
  gstat := Vector.replicate 32 0
  unknown := 0
  tp := none
  ta := none
  ms := none
  di := Vector.replicate 4 none
  pty := none
  ps := PsUnit.fresh
  rt := RtUnit.fresh
  af := Config.afInit
  pagingCfg := none
  pin := none
  ecc := none
  pagingOpc := none
  slc := Vector.replicate 8 none
  clock := none
  eon := []
  slot := Vector.replicate 32 none

/-- The reset table (70_reset_and_hazards R164), with nothing yet appended to the output streams. -/
def Engine.reset : Engine where
  sr := 0
  sync := .unsynced
  hist := Vector.replicate 104 []
  cur := 0
  bcnt := 0
  bt := 0
  gval := Vector.replicate 4 0
  gflg := Vector.replicate 4 false
  badg := 0
  halted := false
  fault := ⟨false, false⟩
  suppress := true
  pimis := 0
  st := Station.fresh
  paging := Config.pagingInit
  events := []
  groups := []
  synclog := []
  tmcout := []

/-- The parameters of `State.reset`: opaque, so that nothing can rest on their values (log 7). -/
def Params.openValues : Params where
  piTolerance := Config.piTolerance
  tmcCid := Config.tmcCid
  tmcLtn := Config.tmcLtn
  extentDir0 := Dir.ofBit Config.extentDir0Neg
  extentDir1 := Dir.ofBit Config.extentDir1Neg
  handlers := Config.handlers

/-- The machine right after power-on (70_reset_and_hazards R163 and R165) with these parameters and this table loaded. -/
def State.boot (p : Params) (lt : Memory) : State where
  toEngine := Engine.reset
  tunedFreq := none
  params := p
  lt := lt
  port := []
  reply := .nothing

/-- The machine right after reset, the parameters OPEN and no table loaded (log 7, log 8). -/
def State.reset : State := State.boot Params.openValues []

end Sys2Proof.Machine
end

