-- ==== Sys2Proof/Machine/Ops.lean ====
section
/-! DEFINITION. The named operations of the machine: one per piece of state that the rules write, the reads of LT, the keyed
tables, the bounded lists, and the one operation that raises a fault. No operation returns from a fault: the block has no
trap, no handler and no return (60_exceptions R160). -/

namespace Sys2Proof

/-! ## The fields of a location record -/

/-- The full key of a reference of a record, in the record's own country and table (20_memory R48). -/
def LocRecord.ref (r : LocRecord) (code : LocRef) : Option LocKey := code.map fun c => { r.key with lcd := c }

/-- `kind` (20_memory R48). -/
def LocRecord.kind (r : LocRecord) : LocKind :=
  match r.body with
  | .area => .area
  | .road => .road
  | .segment .. => .segment
  | .point .. => .point

/-- `area` (20_memory R48), present for every kind. -/
def LocRecord.areaKey (r : LocRecord) : Option LocKey := r.ref r.area

/-- `road` (20_memory R48), present for SEGMENT and POINT. -/
def LocRecord.road (r : LocRecord) : Option LocKey :=
  match r.body with
  | .segment road .. => r.ref road
  | .point road .. => r.ref road
  | _ => none

/-- `pos` (20_memory R48), present for SEGMENT and POINT. -/
def LocRecord.pos (r : LocRecord) : Option LocKey :=
  match r.body with
  | .segment _ pos .. => r.ref pos
  | .point _ pos .. => r.ref pos
  | _ => none

/-- `neg` (20_memory R48), present for SEGMENT and POINT. -/
def LocRecord.neg (r : LocRecord) : Option LocKey :=
  match r.body with
  | .segment _ _ neg .. => r.ref neg
  | .point _ _ neg .. => r.ref neg
  | _ => none

/-- `proad` (20_memory R48), present for SEGMENT. -/
def LocRecord.proad (r : LocRecord) : Option LocKey :=
  match r.body with
  | .segment _ _ _ proad _ => r.ref proad
  | _ => none

/-- `pseg` (20_memory R48), present for SEGMENT. -/
def LocRecord.pseg (r : LocRecord) : Option LocKey :=
  match r.body with
  | .segment _ _ _ _ pseg => r.ref pseg
  | _ => none

/-- `seg` (20_memory R48), present for POINT. -/
def LocRecord.seg (r : LocRecord) : Option LocKey :=
  match r.body with
  | .point _ _ _ seg .. => r.ref seg
  | _ => none

end Sys2Proof

namespace Sys2Proof.Machine

open Sys2Proof

/-! ## Updates of the state, one piece each -/

/-- Shift one bit into SR, the oldest leaving, and count it in BT (41_synchronizer R87). -/
def State.shiftIn (b : Bool) (s : State) : State :=
  { s with sr := s.sr.extractLsb' 0 25 ++ BitVec.ofBool b, bt := s.bt + 1 }

/-- Write SYNC. -/
def State.setSync (v : Sync) (s : State) : State := { s with sync := v }

/-- Write HIST. -/
def State.setHist (v : Vector (List BitTime) 104) (s : State) : State := { s with hist := v }

/-- Write CUR. -/
def State.setCur (v : Fin 4) (s : State) : State := { s with cur := v }

/-- Write BCNT. -/
def State.setBcnt (v : Nat) (s : State) : State := { s with bcnt := v }

/-- Write GVAL and GFLG. -/
def State.setGroupBuffer (v : Vector Word 4) (f : Vector Bool 4) (s : State) : State := { s with gval := v, gflg := f }

/-- Write BADG. -/
def State.setBadg (v : Nat) (s : State) : State := { s with badg := v }

/-- Write HALTED. -/
def State.setHalted (v : Bool) (s : State) : State := { s with halted := v }

/-- Write SUPPRESS. -/
def State.setSuppress (v : Bool) (s : State) : State := { s with suppress := v }

/-- Write PIMIS. -/
def State.setPimis (v : Nat) (s : State) : State := { s with pimis := v }

/-- Change the Station record. -/
def State.updSt (f : Station → Station) (s : State) : State := { s with st := f s.st }

/-- Write PAGING. -/
def State.setPaging (v : Config.PagingState) (s : State) : State := { s with paging := v }

/-- emit Event (00_scope R12): append to EVENTS. -/
def State.emitEvent (e : Event) (s : State) : State := { s with events := s.events ++ [e] }

/-- emit Group (00_scope R12): append to GROUPS. -/
def State.emitGroup (g : Group) (s : State) : State := { s with groups := s.groups ++ [g] }

/-- Append to SYNCLOG. -/
def State.logSync (r : SyncRecord) (s : State) : State := { s with synclog := s.synclog ++ [r] }

/-- emit TmcMessage (00_scope R12): append to TMCOUT. -/
def State.emitTmc (o : TmcOut) (s : State) : State := { s with tmcout := s.tmcout ++ [o] }

/-- The host sets TUNED_FREQ (10_state R45). -/
def State.setFreq (v : Option Nat) (s : State) : State := { s with tunedFreq := v }

/-- Move past the port item just taken. -/
def State.setPort (v : List PortItem) (s : State) : State := { s with port := v }

/-- Return a value to the host. -/
def State.setReply (v : Reply) (s : State) : State := { s with reply := v }

/-! ## Faults -/

/-- FAULT with one reason added (60_exceptions R156). -/
def FaultSet.add (r : FaultReason) (f : FaultSet) : FaultSet :=
  match r with
  | .badOp => { f with badOp := true }
  | .ltCycle => { f with ltCycle := true }

/-- Fault(reason) (60_exceptions R156): nothing else happens, FAULT gains the reason, and the command returns the fault. -/
def State.raise (r : FaultReason) (s : State) : State :=
  { s with fault := s.fault.add r, reply := .fault r }

/-- A command that HALTED makes stuck (60_exceptions R157), with `s'` its next state otherwise. -/
def unlessHalted (s s' : State) : Host.Outcome State Fault Refusal :=
  if s.halted then .fault .stuckHalted else .next s'

/-! ## Reads of LT -/

/-- LTRead(key) (20_memory R47): the record at a key, or none, which is no error. -/
def Memory.read (m : Memory) (k : LocKey) : Option LocRecord := m.find? fun r => r.key == k

/-- A reference field read through LT (20_memory R47): a key LT does not hold reads as none. -/
def Memory.follow (m : Memory) (ref : Option LocKey) : Option LocKey :=
  match ref with
  | none => none
  | some k => if (m.read k).isSome then some k else none

/-! ## Keyed tables and bounded lists -/

/-- The entry of a table at a 16-bit key. -/
def tabFind {α : Type} (key : α → Word) (k : Word) (t : List α) : Option α := t.find? fun a => key a == k

/-- Write an entry at its key: replace the entry there, or insert it in the rising order of keys (log 15). -/
def tabPut {α : Type} (key : α → Word) (a : α) : List α → List α
  | [] => [a]
  | b :: bs =>
    if key a = key b then a :: bs
    else if (key a).toNat < (key b).toNat then a :: b :: bs
    else b :: tabPut key a bs

/-- A keyed table's canonical form: keys strictly rising. -/
abbrev tabWf {α : Type} (key : α → Word) (t : List α) : Prop :=
  t.Pairwise fun a b => (key a).toNat < (key b).toNat

/-- The last `n` elements of a list: what "oldest dropped" leaves (10_state R37 and R39). -/
def lastN {α : Type} (n : Nat) (l : List α) : List α := l.drop (l.length - n)

/-! ## Indexes -/

/-- The place of a (type, version) in ST.GSTAT and ST.SLOT. -/
def slotIndex (s : Slot) : Fin 32 := ⟨2 * s.type.toNat + s.ver.bit.toNat, by
  have := s.type.isLt
  have := s.ver.bit.toNat_lt
  omega⟩

end Sys2Proof.Machine
end

