-- ==== Sys2Proof/Machine/Operands.lean ====
section
/-! DEFINITION. The operand forms of a group: the fields of X, b2 and b3 that 30_encoding R67 and R69 lay out, and a block as
an optional value. -/

namespace Sys2Proof.Machine

open Sys2Proof

/-- Block 2, if it is valid (42_group_dispatch R104). -/
def blk2 (g : GroupFields) : Option Word := if g.f2 then some g.b2 else none

/-- Block 3, if it is valid (42_group_dispatch R104). -/
def blk3 (g : GroupFields) : Option Word := if g.f3 then some g.b3 else none

/-- The segment s = X[1:0] of types 0 and 15B (30_encoding R67). -/
def segmentOf (x : BitVec 5) : BitVec 2 := x.extractLsb' 0 2

/-- The index 3 - s of the DI bit a segment carries (43_group_types R110). -/
def diIndex (s : BitVec 2) : Fin 4 := ⟨3 - s.toNat, by omega⟩

/-- X[4]: TA of types 0 and 15B, the A/B flag of 2A, TP(ON) of 14A and 14B, the tuning bit of TMC (30_encoding R67). -/
def x4 (x : BitVec 5) : Bool := x.getLsbD 4

/-- X[3]: MS of types 0 and 15B, TA(ON) of 14B (30_encoding R67). -/
def x3 (x : BitVec 5) : Bool := x.getLsbD 3

/-- X[2]: the DI bit of types 0 and 15B (30_encoding R67). -/
def x2 (x : BitVec 5) : Bool := x.getLsbD 2

/-- X[3:0]: the address of 2A and the variant of 14A (30_encoding R67). -/
def xLow4 (x : BitVec 5) : BitVec 4 := x.extractLsb' 0 4

/-- The (application group type, application version) pair of 3A: X[4:1] and X[0] (30_encoding R67). -/
def odaTarget (x : BitVec 5) : Slot := ⟨x.extractLsb' 1 4, Ver.ofBit (x.getLsbD 0)⟩

/-- The first cell 4a of a 2A group, of the 64 (30_encoding R67), plus `k`. -/
def rtCell (a : BitVec 4) (k : Fin 4) : Fin 64 := ⟨4 * a.toNat + k.val, by
  have := a.isLt
  have := k.isLt
  omega⟩

/-- The characters a 2A group writes, in order (43_group_types R113): two from each valid block. -/
def rtPieces (g : GroupFields) : List (Fin 64 × Byte) :=
  let a := xLow4 g.x
  (match blk2 g with
    | some b2 => [(rtCell a 0, hiByte b2), (rtCell a 1, loByte b2)]
    | none => []) ++
  (match blk3 g with
    | some b3 => [(rtCell a 2, hiByte b3), (rtCell a 3, loByte b3)]
    | none => [])

/-- The MJD of a 4A group: X[1:0] ++ b2[15:1] (43_group_types R119). -/
def ctMjd (g : GroupFields) : BitVec 17 := g.x.extractLsb' 0 2 ++ g.b2.extractLsb' 1 15

/-- The hour of a 4A group: b2[0] ++ b3[15:12] (43_group_types R119). -/
def ctHour (g : GroupFields) : BitVec 5 := g.b2.extractLsb' 0 1 ++ g.b3.extractLsb' 12 4

/-- The minute of a 4A group: b3[11:6] (43_group_types R119). -/
def ctMinute (g : GroupFields) : BitVec 6 := g.b3.extractLsb' 6 6

/-- The local time offset of a 4A group in half hours: sign b3[5], magnitude b3[4:0] (43_group_types R119). -/
def ctOffset (g : GroupFields) : Int :=
  let mag : Int := (g.b3.extractLsb' 0 5).toNat
  if g.b3.getLsbD 5 then -mag else mag

end Sys2Proof.Machine
end

