-- ==== Sys2Proof/Machine/Flags.lean ====
section
/-! DEFINITION. The status bits of the block (10_state R43), which has no condition codes: the derived PAGING_ACTIVE, the
tuning bits, the decode gate, and the codes of events and faults. -/

namespace Sys2Proof.Machine

open Sys2Proof

/-- PAGING_ACTIVE (10_state R35): PAGING_CFG is some c with c[4:2] not 0. -/
def Station.pagingActive (st : Station) : Bool :=
  match st.pagingCfg with
  | some c => c.extractLsb' 2 3 != 0
  | none => false

/-- The assignments of TA, MS and DI[3 - s] from a field laid out as X (43_group_types R110 and R124). -/
def Station.tuningBits (x : BitVec 5) (st : Station) : Station :=
  { st with ta := some (x4 x), ms := some (x3 x), di := st.di.set (diIndex (segmentOf x)) (some (x2 x)) }

/-- `piv` of PROCESS (42_group_dispatch R99): block 0 is valid and not 0. -/
def groupPiv (g : Group) : Bool := g.flags[0] && g.values[0] != 0

/-- The decode gate after PI_STEP (42_group_dispatch R101): the group is skipped while SUPPRESS = 1, and when its own PI was
a tolerated mismatch. -/
def gateShut (g : Group) (s : State) : Bool := s.suppress || (groupPiv g && decide (0 < s.pimis))

/-- The code of an event kind (30_encoding R71). -/
def EventKind.code : EventKind → Nat
  | .tuned _ => 1
  | .lost _ => 2
  | .clock _ => 3
  | .eonSwitch _ => 4
  | .eonReturn _ => 5
  | .eos => 6

/-- The code of a fault reason (60_exceptions R156). -/
def FaultReason.code : FaultReason → Nat
  | .badOp => 1
  | .ltCycle => 2

/-- FAULT as the set of its codes, as SNAPSHOT shows it (60_exceptions R156). -/
def FaultSet.codes (f : FaultSet) : List Nat :=
  (if f.badOp then [FaultReason.badOp.code] else []) ++ (if f.ltCycle then [FaultReason.ltCycle.code] else [])

end Sys2Proof.Machine
end

