-- ==== Sys2Proof/Machine/Ps.lean ====
section
/-! DEFINITION. The PS unit: PS_WRITE and PS_VALUE (43_group_types R108 and R109). -/

namespace Sys2Proof.Machine

open Sys2Proof

/-- The complete value of the 8 cells, if no cell is null (43_group_types R108). -/
def psComplete (cur : Vector Cell 8) : Option (Vector Byte 8) := do
  let c0 ← cur[0]
  let c1 ← cur[1]
  let c2 ← cur[2]
  let c3 ← cur[3]
  let c4 ← cur[4]
  let c5 ← cur[5]
  let c6 ← cur[6]
  let c7 ← cur[7]
  return #v[c0, c1, c2, c3, c4, c5, c6, c7]

/-- A count that saturates at 2^32 - 1 (43_group_types R108). -/
def satIncr (c : BitVec 32) : BitVec 32 := if c.toNat + 1 < 2 ^ 32 then c + 1 else c

/-- The order on history entries: by count, then by recency (43_group_types R108 and R109). -/
def PsEntry.below (a b : PsEntry) : Bool :=
  decide (a.count.toNat < b.count.toNat) || (a.count == b.count && decide (a.recency.toNat < b.recency.toNat))

/-- The positions of the history entries that no entry is below. -/
def psWeakest (hist : List PsEntry) : List Nat :=
  (hist.zipIdx.filter fun e => hist.all fun x => !x.below e.1).map Prod.snd

/-- The positions of the history entries that are below no entry. -/
def psStrongest (hist : List PsEntry) : List Nat :=
  (hist.zipIdx.filter fun e => hist.all fun x => !e.1.below x).map Prod.snd

/-- One of the tied positions: the only one, or a free choice among several (log 25). -/
def psPick : List Nat → Nat
  | [i] => i
  | ts => ts.getD (Config.psTie ts % ts.length) 0

/-- The history with room for one more entry: a full one loses its weakest (43_group_types R108). -/
def psRoom (hist : List PsEntry) : List PsEntry :=
  if hist.length = Config.psHistCap then hist.eraseIdx (psPick (psWeakest hist)) else hist

/-- A vote for a complete value (43_group_types R108): its entry is counted, or a new entry inserted. -/
def PsUnit.vote (val : Vector Byte 8) (u : PsUnit) : PsUnit :=
  let stamp := u.stamp + 1
  { u with
    stamp := stamp
    hist :=
      if u.hist.any fun e => e.value == val then
        u.hist.map fun e => if e.value = val then { e with count := satIncr e.count, recency := stamp } else e
      else psRoom u.hist ++ [⟨val, 1, stamp⟩] }

/-- The two cells of a segment written (43_group_types R108). -/
def psCells (cur : Vector Cell 8) (s : BitVec 2) (c0 c1 : Byte) : Vector Cell 8 :=
  (cur.set (2 * s.toNat) (some c0) (by omega)).set (2 * s.toNat + 1) (some c1) (by omega)

/-- PS_WRITE(u, s, c0, c1) (43_group_types R108). -/
def PsUnit.write (s : BitVec 2) (c0 c1 : Byte) (u : PsUnit) : PsUnit :=
  let u' := { u with cur := psCells u.cur s c0 c1 }
  match psComplete u'.cur with
  | some val => u'.vote val
  | none => u'

/-- PS_VALUE(u) (43_group_types R109): the most frequent complete value, else the cells as they stand. -/
def PsUnit.shown (u : PsUnit) : Vector Cell 8 :=
  match u.hist[psPick (psStrongest u.hist)]? with
  | some e => e.value.map some
  | none => u.cur

end Sys2Proof.Machine
end

