-- ==== Sys2Proof/Machine/Eon.lean ====
section
/-! DEFINITION. Enhanced Other Networks (43_group_types R121 to R123): the ON table, the variants of 14A, and 14A and 14B. -/

namespace Sys2Proof.Machine

open Sys2Proof

/-- ON_RECORD(pi) (43_group_types R121): the record, a fresh one if the table has room, or none. -/
def onRecord (pi : Word) (eon : List OtherNetwork) : Option OtherNetwork :=
  match tabFind OtherNetwork.pi pi eon with
  | some r => some r
  | none => if eon.length < Config.eonCap then some (OtherNetwork.fresh pi) else none

/-- Find or create the record of a PI(ON) and change it; a full table refuses a new PI (43_group_types R121). -/
def updOn (pi : Word) (f : OtherNetwork → OtherNetwork) (s : State) : State :=
  match onRecord pi s.st.eon with
  | none => s
  | some r => s.updSt fun st => { st with eon := tabPut OtherNetwork.pi { f r with pi := r.pi } st.eon }

/-- PS(ON) segment n (43_group_types R122). -/
def onPs (n : BitVec 2) (b2 : Word) (r : OtherNetwork) : OtherNetwork :=
  { r with ps := r.ps.write n (hiByte b2) (loByte b2) }

/-- A mapped frequency pair (43_group_types R121). -/
def onMapped (n : BitVec 4) (b2 : Word) (r : OtherNetwork) : OtherNetwork :=
  { r with mapped := lastN Config.tripleCap (r.mapped ++ [⟨n, hiByte b2, loByte b2⟩]) }

/-- 14A variant 0 on an ON record (43_group_types R121 and R122). -/
def eonV0 (b2 : Word) (r : OtherNetwork) : OtherNetwork := onPs 0 b2 r

/-- 14A variant 1 on an ON record (43_group_types R121 and R122). -/
def eonV1 (b2 : Word) (r : OtherNetwork) : OtherNetwork := onPs 1 b2 r

/-- 14A variant 2 on an ON record (43_group_types R121 and R122). -/
def eonV2 (b2 : Word) (r : OtherNetwork) : OtherNetwork := onPs 2 b2 r

/-- 14A variant 3 on an ON record (43_group_types R121 and R122). -/
def eonV3 (b2 : Word) (r : OtherNetwork) : OtherNetwork := onPs 3 b2 r

/-- 14A variant 4 on an ON record (43_group_types R121 and R122). -/
def eonV4 (b2 : Word) (r : OtherNetwork) : OtherNetwork := { r with af := Config.afUpdate r.af (hiByte b2) (loByte b2) none }

/-- 14A variant 5 on an ON record (43_group_types R121 and R122). -/
def eonV5 (b2 : Word) (r : OtherNetwork) : OtherNetwork := onMapped 5 b2 r

/-- 14A variant 6 on an ON record (43_group_types R121 and R122). -/
def eonV6 (b2 : Word) (r : OtherNetwork) : OtherNetwork := onMapped 6 b2 r

/-- 14A variant 7 on an ON record (43_group_types R121 and R122). -/
def eonV7 (b2 : Word) (r : OtherNetwork) : OtherNetwork := onMapped 7 b2 r

/-- 14A variant 8 on an ON record (43_group_types R121 and R122). -/
def eonV8 (b2 : Word) (r : OtherNetwork) : OtherNetwork := onMapped 8 b2 r

/-- 14A variant 9 on an ON record (43_group_types R121 and R122). -/
def eonV9 (b2 : Word) (r : OtherNetwork) : OtherNetwork := onMapped 9 b2 r

/-- 14A variant 10: nothing (43_group_types R121 and R122). -/
def eonV10 (_b2 : Word) (r : OtherNetwork) : OtherNetwork := r

/-- 14A variant 11: nothing (43_group_types R121 and R122). -/
def eonV11 (_b2 : Word) (r : OtherNetwork) : OtherNetwork := r

/-- 14A variant 12 on an ON record (43_group_types R121 and R122). -/
def eonV12 (b2 : Word) (r : OtherNetwork) : OtherNetwork := { r with linkage := some b2 }

/-- 14A variant 13 on an ON record (43_group_types R121 and R122). -/
def eonV13 (b2 : Word) (r : OtherNetwork) : OtherNetwork := { r with pty := some (b2.extractLsb' 11 5), ta := some (b2.getLsbD 0) }

/-- 14A variant 14 on an ON record (43_group_types R121 and R122). -/
def eonV14 (b2 : Word) (r : OtherNetwork) : OtherNetwork := { r with pin := some b2 }

/-- 14A variant 15: nothing (43_group_types R121 and R122). -/
def eonV15 (_b2 : Word) (r : OtherNetwork) : OtherNetwork := r

/-- The effect of a decoded 14A variant row on the record of its PI(ON) (43_group_types R121). -/
def runEon (i : Instr) (s : State) : State :=
  match i with
  | .eon14aV0 piOn b2 => updOn piOn (eonV0 b2) s
  | .eon14aV1 piOn b2 => updOn piOn (eonV1 b2) s
  | .eon14aV2 piOn b2 => updOn piOn (eonV2 b2) s
  | .eon14aV3 piOn b2 => updOn piOn (eonV3 b2) s
  | .eon14aV4 piOn b2 => updOn piOn (eonV4 b2) s
  | .eon14aV5 piOn b2 => updOn piOn (eonV5 b2) s
  | .eon14aV6 piOn b2 => updOn piOn (eonV6 b2) s
  | .eon14aV7 piOn b2 => updOn piOn (eonV7 b2) s
  | .eon14aV8 piOn b2 => updOn piOn (eonV8 b2) s
  | .eon14aV9 piOn b2 => updOn piOn (eonV9 b2) s
  | .eon14aV10 piOn b2 => updOn piOn (eonV10 b2) s
  | .eon14aV11 piOn b2 => updOn piOn (eonV11 b2) s
  | .eon14aV12 piOn b2 => updOn piOn (eonV12 b2) s
  | .eon14aV13 piOn b2 => updOn piOn (eonV13 b2) s
  | .eon14aV14 piOn b2 => updOn piOn (eonV14 b2) s
  | .eon14aV15 piOn b2 => updOn piOn (eonV15 b2) s
  | _ => s

/-- EON_14A (43_group_types R121). -/
def eon14A (g : GroupFields) (s : State) : State :=
  if g.f3 then
    match onRecord g.b3 s.st.eon with
    | none => s
    | some _ =>
      let s' := updOn g.b3 (fun r => { r with tp := some (x4 g.x) }) s
      if g.f2 then runEon (eonRow (xLow4 g.x) g.b3 g.b2) s' else s'
  else s

/-- The events of a 14B group: a transition of TA(ON) from `old` (43_group_types R123). -/
def taEvents (old : Option Bool) (ta : Bool) (g : GroupFields) (s : State) : State :=
  if ta && old != some true then s.emitEvent ⟨g.bt, .eonSwitch g.b3⟩
  else if !ta && old == some true then s.emitEvent ⟨g.bt, .eonReturn g.b3⟩
  else s

/-- EON_14B (43_group_types R123). -/
def eon14B (g : GroupFields) (s : State) : State :=
  if g.f3 then
    match onRecord g.b3 s.st.eon with
    | none => s
    | some r =>
      taEvents r.ta (x3 g.x) g (updOn g.b3 (fun r => { r with tp := some (x4 g.x), ta := some (x3 g.x) }) s)
  else s

/-- EON14A_V0 (43_group_types R122, log 19). -/
def execEon14aV0 (piOn b2 : Word) (s : State) : Host.Outcome State Fault Refusal :=
  .next (updOn piOn (eonV0 b2) s)

/-- EON14A_V1 (43_group_types R122, log 19). -/
def execEon14aV1 (piOn b2 : Word) (s : State) : Host.Outcome State Fault Refusal :=
  .next (updOn piOn (eonV1 b2) s)

/-- EON14A_V2 (43_group_types R122, log 19). -/
def execEon14aV2 (piOn b2 : Word) (s : State) : Host.Outcome State Fault Refusal :=
  .next (updOn piOn (eonV2 b2) s)

/-- EON14A_V3 (43_group_types R122, log 19). -/
def execEon14aV3 (piOn b2 : Word) (s : State) : Host.Outcome State Fault Refusal :=
  .next (updOn piOn (eonV3 b2) s)

/-- EON14A_V4 (43_group_types R122, log 19). -/
def execEon14aV4 (piOn b2 : Word) (s : State) : Host.Outcome State Fault Refusal :=
  .next (updOn piOn (eonV4 b2) s)

/-- EON14A_V5 (43_group_types R122, log 19). -/
def execEon14aV5 (piOn b2 : Word) (s : State) : Host.Outcome State Fault Refusal :=
  .next (updOn piOn (eonV5 b2) s)

/-- EON14A_V6 (43_group_types R122, log 19). -/
def execEon14aV6 (piOn b2 : Word) (s : State) : Host.Outcome State Fault Refusal :=
  .next (updOn piOn (eonV6 b2) s)

/-- EON14A_V7 (43_group_types R122, log 19). -/
def execEon14aV7 (piOn b2 : Word) (s : State) : Host.Outcome State Fault Refusal :=
  .next (updOn piOn (eonV7 b2) s)

/-- EON14A_V8 (43_group_types R122, log 19). -/
def execEon14aV8 (piOn b2 : Word) (s : State) : Host.Outcome State Fault Refusal :=
  .next (updOn piOn (eonV8 b2) s)

/-- EON14A_V9 (43_group_types R122, log 19). -/
def execEon14aV9 (piOn b2 : Word) (s : State) : Host.Outcome State Fault Refusal :=
  .next (updOn piOn (eonV9 b2) s)

/-- EON14A_V10 (43_group_types R122, log 19). -/
def execEon14aV10 (piOn b2 : Word) (s : State) : Host.Outcome State Fault Refusal :=
  .next (updOn piOn (eonV10 b2) s)

/-- EON14A_V11 (43_group_types R122, log 19). -/
def execEon14aV11 (piOn b2 : Word) (s : State) : Host.Outcome State Fault Refusal :=
  .next (updOn piOn (eonV11 b2) s)

/-- EON14A_V12 (43_group_types R122, log 19). -/
def execEon14aV12 (piOn b2 : Word) (s : State) : Host.Outcome State Fault Refusal :=
  .next (updOn piOn (eonV12 b2) s)

/-- EON14A_V13 (43_group_types R122, log 19). -/
def execEon14aV13 (piOn b2 : Word) (s : State) : Host.Outcome State Fault Refusal :=
  .next (updOn piOn (eonV13 b2) s)

/-- EON14A_V14 (43_group_types R122, log 19). -/
def execEon14aV14 (piOn b2 : Word) (s : State) : Host.Outcome State Fault Refusal :=
  .next (updOn piOn (eonV14 b2) s)

/-- EON14A_V15 (43_group_types R122, log 19). -/
def execEon14aV15 (piOn b2 : Word) (s : State) : Host.Outcome State Fault Refusal :=
  .next (updOn piOn (eonV15 b2) s)

end Sys2Proof.Machine
end

