-- ==== Sys2Proof/Machine/Rt.lean ====
section
/-! DEFINITION. The RT unit: the radiotext write and its archive (43_group_types R113 and R114). -/

namespace Sys2Proof.Machine

open Sys2Proof

/-- RT_ARCHIVE(buf) (43_group_types R114): append; over the depth, the oldest message is dropped. -/
def rtArchive (arch : List (Vector Cell 64)) (buf : Vector Cell 64) : List (Vector Cell 64) :=
  let a := arch ++ [buf]
  if Config.rtArchiveDepth < a.length then a.tail else a

/-- The A/B flag changed (43_group_types R113). -/
def rtToggled (flag : Option Bool) (ab : Bool) : Bool :=
  match flag with
  | some f => f != ab
  | none => false

/-- A written, non-null cell would receive a different value (43_group_types R113). -/
def rtOverwrites (buf : Vector Cell 64) (pcs : List (Fin 64 × Byte)) : Bool :=
  pcs.any fun p => buf[p.1] != none && buf[p.1] != some p.2

/-- The cells with the pieces written, in order (43_group_types R113). -/
def rtPut (buf : Vector Cell 64) (pcs : List (Fin 64 × Byte)) : Vector Cell 64 :=
  pcs.foldl (fun b p => b.set p.1 (some p.2)) buf

/-- RT_2A (43_group_types R113) on the RT unit: `ab` is the A/B flag, `pcs` the characters of the valid blocks. -/
def RtUnit.write (ab : Bool) (pcs : List (Fin 64 × Byte)) (u : RtUnit) : RtUnit :=
  if pcs.isEmpty then u
  else if rtToggled u.flag ab || rtOverwrites u.buf pcs then
    { flag := some ab
      arch := if u.buf.toList.any (·.isSome) then rtArchive u.arch u.buf else u.arch
      buf := rtPut (Vector.replicate 64 none) pcs }
  else { u with flag := some ab, buf := rtPut u.buf pcs }

end Sys2Proof.Machine
end

