-- ==== Sys2Proof/Machine/Location.lean ====
section
/-! DEFINITION. LOCW, the location walker (spec 45_location): PARENT, CHAIN, GETOFFSET, GETENCLOSING, COMPARE and WALK over
LT, and the meanings of the three location queries. `none` of an outer option stands for Fault(LT_CYCLE). -/

namespace Sys2Proof.Machine

open Sys2Proof

/-- The first of two optional keys that is there. -/
def firstKey (a b : Option LocKey) : Option LocKey :=
  match a with
  | some k => some k
  | none => b

/-- PARENT of an existing record (45_location R143). -/
def parentOf (m : Memory) (r : LocRecord) : Option LocKey :=
  match r.kind with
  | .segment => firstKey (m.follow r.pseg) (m.follow r.proad)
  | .point => firstKey (m.follow r.seg) (m.follow r.road)
  | .road => none
  | .area => m.follow r.areaKey

/-- PARENT(k) (45_location R143). -/
def parent (m : Memory) (k : LocKey) : Option LocKey :=
  match m.read k with
  | some r => parentOf m r
  | none => none

/-- CHAIN from an optional key with `room` more records allowed (45_location R144). -/
def chainFrom (m : Memory) : Nat → Option LocKey → Option (List LocKey)
  | _, none => some []
  | room, some k =>
    match m.read k with
    | none => some []
    | some r =>
      match room with
      | 0 => none
      | room + 1 => (chainFrom m room (parentOf m r)).map (k :: ·)

/-- CHAIN(k) (45_location R144): at most N = |LT| records, or Fault(LT_CYCLE). -/
def chain (m : Memory) (k : LocKey) : Option (List LocKey) := chainFrom m m.length (some k)

/-- ANC(k) (45_location R144): CHAIN(k) without its first element. -/
def ancestors (m : Memory) (k : LocKey) : Option (List LocKey) := (chain m k).map List.tail

/-- The reference of a record in a direction, read through LT: none at a chain end (45_location R145). -/
def neighbour (m : Memory) (dir : Dir) (k : LocKey) : Option LocKey :=
  match m.read k with
  | some r =>
    match dir with
    | .pos => m.follow r.pos
    | .neg => m.follow r.neg
  | none => none

/-- At most `n` steps in a direction, clamped at the chain end (45_location R145). -/
def offsetWalk (m : Memory) (dir : Dir) : Nat → LocKey → LocKey
  | 0, c => c
  | n + 1, c =>
    match neighbour m dir c with
    | none => c
    | some nx => offsetWalk m dir n nx

/-- GETOFFSET(k, extent, dir) (45_location R145). -/
def getOffset (m : Memory) (k : LocKey) (extent : Nat) (dir : Dir) : Option LocKey :=
  match m.read k with
  | none => none
  | some _ => some (offsetWalk m dir extent k)

/-- GETENCLOSING(self, secondary) (45_location R146). -/
def getEnclosing (m : Memory) (self : LocKey) (secondary : Option LocKey) : Option (Option LocKey) :=
  match secondary with
  | none => some (some self)
  | some sec =>
    if sec = self then some (some self)
    else do
      let a ← chain m self
      let b ← chain m sec
      return a.find? fun k => b.contains k

/-- The two ends of the simultaneous walk: the key reached on a side, or none once that side has ended. -/
structure WalkEnds where
  ahead : Option LocKey
  behind : Option LocKey
deriving DecidableEq, Repr

/-- One side of a round of WALK (45_location R148): the key reached next, if the side has not ended. -/
def walkSide (m : Memory) (dir : Dir) (at_ : Option LocKey) : Option LocKey :=
  match at_ with
  | none => none
  | some k => neighbour m dir k

/-- The rounds of WALK with `room` more rounds allowed (45_location R148): positive side first in each round. -/
def walkFrom (m : Memory) (rhs : LocKey) : Nat → WalkEnds → Option Int
  | room, e =>
    if e.ahead = none ∧ e.behind = none then some 0
    else
      match room with
      | 0 => none
      | room + 1 =>
        let p := walkSide m .pos e.ahead
        if p = some rhs then some (-1)
        else
          let q := walkSide m .neg e.behind
          if q = some rhs then some 1 else walkFrom m rhs room ⟨p, q⟩

/-- WALK(lhs, rhs) (45_location R148): at most N = |LT| rounds, or Fault(LT_CYCLE). -/
def walk (m : Memory) (lhs rhs : LocKey) : Option Int := walkFrom m rhs m.length ⟨some lhs, some lhs⟩

/-- What one round of COMPARE ends in: its answer, or the recursion on the two parent segments. -/
inductive CompareRound
  | answer (r : Int)
  | recurse (pa pb : LocKey)
deriving DecidableEq, Repr

/-- The walk of COMPARE (45_location R147): two points or two segments are walked, other kinds give 0. -/
def compareWalk (m : Memory) (lhs rhs : LocKey) (a b : LocRecord) : Option Int :=
  if a.kind = b.kind ∧ (a.kind = .point ∨ a.kind = .segment) then walk m lhs rhs else some 0

/-- The last line of COMPARE (45_location R147): two segments with parent segments recurse, all else gives 0. -/
def compareParents (m : Memory) (a b : LocRecord) : CompareRound :=
  if a.kind = .segment ∧ b.kind = .segment then
    match m.follow a.pseg, m.follow b.pseg with
    | some pa, some pb => .recurse pa pb
    | _, _ => .answer 0
  else .answer 0

/-- COMPARE of two different records up to its recursion (45_location R147): rhs's ancestors, lhs's ancestors, the walk. -/
def compareRecords (m : Memory) (neg : Bool) (lhs rhs : LocKey) (a b : LocRecord) : Option CompareRound :=
  match ancestors m rhs with
  | none => none
  | some ancR =>
    if ancR.contains lhs then some (.answer (-1))
    else
      match ancestors m lhs with
      | none => none
      | some ancL =>
        if ancL.contains rhs then some (.answer 1)
        else
          match compareWalk m lhs rhs a b with
          | none => none
          | some r => if r ≠ 0 then some (.answer (if neg then -r else r)) else some (compareParents m a b)

/-- One round of COMPARE (45_location R147): equal keys, or a key LT does not hold, give 0. -/
def compareRound (m : Memory) (neg : Bool) (lhs rhs : LocKey) : Option CompareRound :=
  if lhs = rhs then some (.answer 0)
  else
    match m.read lhs, m.read rhs with
    | some a, some b => compareRecords m neg lhs rhs a b
    | _, _ => some (.answer 0)

/-- COMPARE with `room` more recursions allowed (45_location R147). -/
def compareFrom (m : Memory) (neg : Bool) : Nat → LocKey → LocKey → Option Int
  | room, lhs, rhs =>
    match compareRound m neg lhs rhs with
    | none => none
    | some (.answer r) => some r
    | some (.recurse pa pb) =>
      match room with
      | 0 => none
      | room + 1 => compareFrom m neg room pa pb

/-- COMPARE(neg, lhs, rhs) (45_location R147): at most N = |LT| recursions, or Fault(LT_CYCLE). -/
def compareKeys (m : Memory) (neg : Bool) (lhs rhs : LocKey) : Option Int := compareFrom m neg m.length lhs rhs

/-- A query's return (45_location R149, 60_exceptions R156): its value, or Fault(LT_CYCLE) and nothing else. -/
def queryReturn {α : Type} (wrap : α → Reply) (result : Option α) (s : State) : State :=
  match result with
  | some v => s.setReply (wrap v)
  | none => s.raise .ltCycle

/-- LOC_OFFSET (45_location R145). -/
def execLocOffset (dir : Dir) (key : LocKey) (extent : BitVec 32) (s : State) : Host.Outcome State Fault Refusal :=
  unlessHalted s (s.setReply (.key (getOffset s.lt key extent.toNat dir)))

/-- LOC_ENCLOSING (45_location R146). -/
def execLocEnclosing (self : LocKey) (secondary : Option LocKey) (s : State) : Host.Outcome State Fault Refusal :=
  unlessHalted s (queryReturn .key (getEnclosing s.lt self secondary) s)

/-- LOC_COMPARE (45_location R147). -/
def execLocCompare (neg : Bool) (lhs rhs : LocKey) (s : State) : Host.Outcome State Fault Refusal :=
  unlessHalted s (queryReturn .order (compareKeys s.lt neg lhs rhs) s)

end Sys2Proof.Machine
end

