-- ==== Sys2Proof/Machine/AlertC.lean ====
section
/-! DEFINITION. The Alert-C records of a TMC message (spec 44_tmc R135 to R138): one function on the message per label, and
DRAIN, which takes the complete records off the bit queue, decodes each and applies it. -/

namespace Sys2Proof.Machine

open Sys2Proof

/-- One more applied record (44_tmc R136). -/
def TmcMsg.counted (m : TmcMsg) : TmcMsg := { m with nf := m.nf + 1 }

/-- LENGTH(val) (44_tmc R138). -/
def lengthOf (val : BitVec 5) : RouteLength :=
  let v := val.toNat
  if v = 0 then .gt100
  else if v ≤ 10 then .km v
  else if v ≤ 15 then .km (10 + 2 * (v - 10))
  else .km (20 + 5 * (v - 15))

/-- The control codes (44_tmc R137); `ext` is computed modulo 32. -/
def controlCode (val : BitVec 3) (m : TmcMsg) : TmcMsg :=
  match val.toNat with
  | 0 => { m with urg := m.urg + 1 }
  | 1 => { m with urg := m.urg - 1 }
  | 2 => { m with dirch := !m.dirch }
  | 3 => { m with dynch := !m.dynch }
  | 4 => { m with spkch := !m.spkch }
  | 5 => { m with div := true }
  | 6 => { m with ext := m.ext + 8 }
  | _ => { m with ext := m.ext + 16 }

/-- Label 0, duration; the record (0, 0) is dropped (44_tmc R135 and R136). -/
def alertcL0 (val : BitVec 3) (m : TmcMsg) : TmcMsg :=
  if val = 0 then m else { m with dur := some val }.counted

/-- Label 1, control code (44_tmc R136 and R137). -/
def alertcL1 (val : BitVec 3) (m : TmcMsg) : TmcMsg := (controlCode val m).counted

/-- Label 2, length (44_tmc R136 and R138). -/
def alertcL2 (val : BitVec 5) (m : TmcMsg) : TmcMsg := { m with len := some (lengthOf val) }.counted

/-- Label 3, speed limit in km/h (44_tmc R136). -/
def alertcL3 (val : BitVec 5) (m : TmcMsg) : TmcMsg := { m with spd := some (5 * val.toNat) }.counted

/-- Label 4, 5-bit quantifier (44_tmc R136). -/
def alertcL4 (val : BitVec 5) (m : TmcMsg) : TmcMsg := { m with qty := some (.label4 val) }.counted

/-- Label 5, 8-bit quantifier (44_tmc R136). -/
def alertcL5 (val : BitVec 8) (m : TmcMsg) : TmcMsg := { m with qty := some (.label5 val) }.counted

/-- Label 6, supplementary information code (44_tmc R136). -/
def alertcL6 (val : BitVec 8) (m : TmcMsg) : TmcMsg := { m with si := some val }.counted

/-- Label 7: consumed, no field (44_tmc R136). -/
def alertcL7 (_val : BitVec 8) (m : TmcMsg) : TmcMsg := m

/-- Label 8: consumed, no field (44_tmc R136). -/
def alertcL8 (_val : BitVec 8) (m : TmcMsg) : TmcMsg := m

/-- Label 9: consumed, no field (44_tmc R136). -/
def alertcL9 (_val : BitVec 11) (m : TmcMsg) : TmcMsg := m

/-- Label 10: consumed, no field (44_tmc R136). -/
def alertcL10 (_val : BitVec 16) (m : TmcMsg) : TmcMsg := m

/-- Label 11: consumed, no field (44_tmc R136). -/
def alertcL11 (_val : BitVec 16) (m : TmcMsg) : TmcMsg := m

/-- Label 12: consumed, no field (44_tmc R136). -/
def alertcL12 (_val : BitVec 16) (m : TmcMsg) : TmcMsg := m

/-- Label 13: consumed, no field (44_tmc R136). -/
def alertcL13 (_val : BitVec 16) (m : TmcMsg) : TmcMsg := m

/-- Label 14: consumed, no field (44_tmc R136). -/
def alertcL14 (m : TmcMsg) : TmcMsg := m

/-- Label 15: consumed, no field (44_tmc R136). -/
def alertcL15 (m : TmcMsg) : TmcMsg := m

/-- APPLY of a decoded label row (44_tmc R136); DRAIN decodes nothing but label rows. -/
def applyLabel (i : Instr) (m : TmcMsg) : TmcMsg :=
  match i with
  | .alertcL0 _ val => alertcL0 val m
  | .alertcL1 _ val => alertcL1 val m
  | .alertcL2 _ val => alertcL2 val m
  | .alertcL3 _ val => alertcL3 val m
  | .alertcL4 _ val => alertcL4 val m
  | .alertcL5 _ val => alertcL5 val m
  | .alertcL6 _ val => alertcL6 val m
  | .alertcL7 _ val => alertcL7 val m
  | .alertcL8 _ val => alertcL8 val m
  | .alertcL9 _ val => alertcL9 val m
  | .alertcL10 _ val => alertcL10 val m
  | .alertcL11 _ val => alertcL11 val m
  | .alertcL12 _ val => alertcL12 val m
  | .alertcL13 _ val => alertcL13 val m
  | .alertcL14 _ => alertcL14 m
  | .alertcL15 _ => alertcL15 m
  | _ => m

/-- DRAIN with at most `fuel` records (44_tmc R135): the message and what is left of the queue. -/
def drainFrom (slot : Slot) : Nat → List Bool → TmcMsg → TmcMsg × List Bool
  | 0, q, m => (m, q)
  | fuel + 1, q, m =>
    match takeRecord q with
    | none => (m, q)
    | some (label, val, rest) => drainFrom slot fuel rest (applyLabel (labelRow slot label val) m)

/-- DRAIN() (44_tmc R135): a record takes at least 4 bits, so the queue's length bounds their number. -/
def drain (slot : Slot) (q : List Bool) (m : TmcMsg) : TmcMsg × List Bool := drainFrom slot q.length q m

end Sys2Proof.Machine
end

