-- ==== Sys2Proof/Machine/Tmc.lean ====
section
/-! DEFINITION. TMCQ (spec 44_tmc): the message forms and tuning variants on a handler instance, EMIT with its location
resolution, RECV, and the meanings of the TMC rows. A row whose slot holds no TMC instance changes nothing (log 21). -/

namespace Sys2Proof.Machine

open Sys2Proof

/-! ## Messages -/

/-- NEW_MSG (44_tmc R129), with the fields that SINGLE and FIRST both name. -/
def newMsg (single dir : Bool) (ext : BitVec 3) (evt : BitVec 11) (loc : Word) : TmcMsg where
  single := single
  dir := dir
  ext := ext.setWidth 5
  evt := evt
  loc := loc
  ci := none
  dp := none
  div := false
  dur := none
  urg := 0
  dirch := false
  dynch := false
  spkch := false
  len := none
  spd := none
  qty := none
  si := none
  nf := 0
  rloc := none
  rsec := none

/-- TMC_EXTENT_DIR (44_tmc R140). -/
def Params.extentDir (p : Params) (dir : Bool) : Dir := if dir then p.extentDir1 else p.extentDir0

/-- Location resolution (44_tmc R140). -/
def resolve (p : Params) (lt : Memory) (m : TmcMsg) : TmcMsg :=
  let k : LocKey := ⟨p.tmcCid, p.tmcLtn, m.loc⟩
  match lt.read k with
  | some _ => { m with rloc := some k, rsec := getOffset lt k m.ext.toNat (p.extentDir m.dir) }
  | none => { m with rloc := none, rsec := none }

/-- EMIT(m, bt) (44_tmc R139). -/
def emitMsg (m : TmcMsg) (bt : BitTime) (s : State) : State := s.emitTmc ⟨bt, resolve s.params s.lt m⟩

/-! ## The forms on an instance: the new instance, and the message to emit, if any -/

/-- FIRST (44_tmc R130). -/
def firstInst (ci : BitVec 3) (dir : Bool) (ext : BitVec 3) (evt : BitVec 11) (loc : Word) (t : TmcInst) : TmcInst :=
  { t with
    msg := some { newMsg false dir ext evt loc with ci := some ci }
    ci := some ci
    next := some 1
    total := none
    q := [] }

/-- The sequence number of a continuation (44_tmc R131); none before the second group fixed the total. -/
def contSeq (sg : Bool) (gsi : BitVec 2) (total : Option Nat) : Option Int :=
  if sg then some 1
  else
    match total with
    | some n => some ((n : Int) - 1 - gsi.toNat)
    | none => none

/-- A continuation passes the tests of 44_tmc R131: its continuity index is the pending message's, and its sequence number
is the expected one. -/
def contAccepted (ci : BitVec 3) (sg : Bool) (gsi : BitVec 2) (t : TmcInst) : Bool :=
  t.ci == some ci &&
    match contSeq sg gsi t.total, t.next with
    | some seq, some n => decide (seq = n)
    | _, _ => false

/-- The queue after QPush of the 12 and the 16 free bits (44_tmc R131 and R133). -/
def pushFree (q : List Bool) (free12 : BitVec 12) (free16 : Word) : List Bool :=
  q ++ bitsMsb 12 free12.toNat ++ bitsMsb 16 free16.toNat

/-- SUBSEQUENT (44_tmc R131 and R132). -/
def subsequentInst (slot : Slot) (ci : BitVec 3) (sg : Bool) (gsi : BitVec 2) (free12 : BitVec 12) (free16 : Word)
    (t : TmcInst) : TmcInst × Option TmcMsg :=
  match t.msg with
  | none => (t, none)
  | some m =>
    if contAccepted ci sg gsi t then
      let d := drain slot (pushFree t.q free12 free16) m
      if gsi = 0 then
        ({ t with msg := none, ci := none, next := none, total := none, q := [] }, some d.1)
      else
        ({ t with
            msg := some d.1
            next := t.next.map (· + 1)
            total := if sg then some (gsi.toNat + 2) else t.total
            q := d.2 }, none)
    else (t, none)

/-! ## Tuning information on an instance -/

/-- The four provider-name characters of b2 and b3 in cells 0..3, or in cells 4..7 (44_tmc R141). -/
def provPut (upper : Bool) (b2 b3 : Word) (t : TmcInst) : TmcInst :=
  let c0 : Cell := some (hiByte b2)
  let c1 : Cell := some (loByte b2)
  let c2 : Cell := some (hiByte b3)
  let c3 : Cell := some (loByte b3)
  { t with
    prov := if upper then #v[t.prov[0], t.prov[1], t.prov[2], t.prov[3], c0, c1, c2, c3]
      else #v[c0, c1, c2, c3, t.prov[4], t.prov[5], t.prov[6], t.prov[7]] }

/-- One more triple in the ONAF entry of a PI(ON), created if absent and the table has room (44_tmc R141). -/
def onafPut (pi : Word) (tr : FreqTriple) (t : TmcInst) : TmcInst :=
  match tabFind OnafEntry.pi pi t.onaf with
  | some e => { t with onaf := tabPut OnafEntry.pi { e with triples := lastN Config.tripleCap (e.triples ++ [tr]) } t.onaf }
  | none => if t.onaf.length < Config.eonCap then { t with onaf := tabPut OnafEntry.pi ⟨pi, [tr]⟩ t.onaf } else t

/-- TMC tuning variant 0: nothing (44_tmc R141). -/
def tuningV0 (_b2 _b3 : Word) (t : TmcInst) : TmcInst := t

/-- TMC tuning variant 1: nothing (44_tmc R141). -/
def tuningV1 (_b2 _b3 : Word) (t : TmcInst) : TmcInst := t

/-- TMC tuning variant 2: nothing (44_tmc R141). -/
def tuningV2 (_b2 _b3 : Word) (t : TmcInst) : TmcInst := t

/-- TMC tuning variant 3: nothing (44_tmc R141). -/
def tuningV3 (_b2 _b3 : Word) (t : TmcInst) : TmcInst := t

/-- TMC tuning variant 4 (44_tmc R141). -/
def tuningV4 (b2 b3 : Word) (t : TmcInst) : TmcInst := provPut false b2 b3 t

/-- TMC tuning variant 5 (44_tmc R141). -/
def tuningV5 (b2 b3 : Word) (t : TmcInst) : TmcInst := provPut true b2 b3 t

/-- TMC tuning variant 6 (44_tmc R141). -/
def tuningV6 (b2 b3 : Word) (t : TmcInst) : TmcInst := onafPut b3 ⟨6, hiByte b2, loByte b2⟩ t

/-- TMC tuning variant 7 (44_tmc R141). -/
def tuningV7 (b2 b3 : Word) (t : TmcInst) : TmcInst := onafPut b3 ⟨7, hiByte b2, loByte b2⟩ t

/-- TMC tuning variant 8: nothing (44_tmc R141). -/
def tuningV8 (_b2 _b3 : Word) (t : TmcInst) : TmcInst := t

/-- TMC tuning variant 9: nothing (44_tmc R141). -/
def tuningV9 (_b2 _b3 : Word) (t : TmcInst) : TmcInst := t

/-- TMC tuning variant 10: nothing (44_tmc R141). -/
def tuningV10 (_b2 _b3 : Word) (t : TmcInst) : TmcInst := t

/-- TMC tuning variant 11: nothing (44_tmc R141). -/
def tuningV11 (_b2 _b3 : Word) (t : TmcInst) : TmcInst := t

/-- TMC tuning variant 12: nothing (44_tmc R141). -/
def tuningV12 (_b2 _b3 : Word) (t : TmcInst) : TmcInst := t

/-- TMC tuning variant 13: nothing (44_tmc R141). -/
def tuningV13 (_b2 _b3 : Word) (t : TmcInst) : TmcInst := t

/-- TMC tuning variant 14: nothing (44_tmc R141). -/
def tuningV14 (_b2 _b3 : Word) (t : TmcInst) : TmcInst := t

/-- TMC tuning variant 15: nothing (44_tmc R141). -/
def tuningV15 (_b2 _b3 : Word) (t : TmcInst) : TmcInst := t

/-- The effect of a decoded tuning variant row (44_tmc R141). -/
def runTuning (i : Instr) (t : TmcInst) : TmcInst :=
  match i with
  | .tmcTuningV0 _ b2 b3 => tuningV0 b2 b3 t
  | .tmcTuningV1 _ b2 b3 => tuningV1 b2 b3 t
  | .tmcTuningV2 _ b2 b3 => tuningV2 b2 b3 t
  | .tmcTuningV3 _ b2 b3 => tuningV3 b2 b3 t
  | .tmcTuningV4 _ b2 b3 => tuningV4 b2 b3 t
  | .tmcTuningV5 _ b2 b3 => tuningV5 b2 b3 t
  | .tmcTuningV6 _ b2 b3 => tuningV6 b2 b3 t
  | .tmcTuningV7 _ b2 b3 => tuningV7 b2 b3 t
  | .tmcTuningV8 _ b2 b3 => tuningV8 b2 b3 t
  | .tmcTuningV9 _ b2 b3 => tuningV9 b2 b3 t
  | .tmcTuningV10 _ b2 b3 => tuningV10 b2 b3 t
  | .tmcTuningV11 _ b2 b3 => tuningV11 b2 b3 t
  | .tmcTuningV12 _ b2 b3 => tuningV12 b2 b3 t
  | .tmcTuningV13 _ b2 b3 => tuningV13 b2 b3 t
  | .tmcTuningV14 _ b2 b3 => tuningV14 b2 b3 t
  | .tmcTuningV15 _ b2 b3 => tuningV15 b2 b3 t
  | _ => t

/-! ## Instances in the slots of the station -/

/-- The handler instance of a slot, if it holds one. -/
def Station.handler? (slot : Slot) (st : Station) : Option Handler :=
  match st.slot[slotIndex slot] with
  | some o => o.handler
  | none => none

/-- Write back the handler instance of a slot. -/
def Station.setHandler (slot : Slot) (h : Handler) (st : Station) : Station :=
  match st.slot[slotIndex slot] with
  | some o => { st with slot := st.slot.set (slotIndex slot) (some { o with handler := some h }) }
  | none => st

/-- The TMC instance of a slot, if it holds one. -/
def Station.inst? (slot : Slot) (st : Station) : Option TmcInst :=
  match st.handler? slot with
  | some (.tmc t) => some t
  | _ => none

/-- Write back the TMC instance of a slot. -/
def Station.setInst (slot : Slot) (t : TmcInst) (st : Station) : Station := st.setHandler slot (.tmc t)

/-- Run a form on the instance of a slot, and EMIT what it completes; without an instance nothing happens (log 21). -/
def withInst (slot : Slot) (bt : BitTime) (f : TmcInst → TmcInst × Option TmcMsg) (s : State) : State :=
  match s.st.inst? slot with
  | none => s
  | some t =>
    let s' := s.updSt (Station.setInst slot (f t).1)
    match (f t).2 with
    | some m => emitMsg m bt s'
    | none => s'

/-- Change the instance of a slot without emitting. -/
def updInst (slot : Slot) (f : TmcInst → TmcInst) (s : State) : State := withInst slot 0 (fun t => (f t, none)) s

/-- Change the pending message of the instance of a slot; without one nothing happens (log 20). -/
def updMsg (slot : Slot) (f : TmcMsg → TmcMsg) (s : State) : State :=
  updInst slot (fun t => { t with msg := t.msg.map f }) s

/-! ## The four forms on the state -/

/-- TUNING(n, b2, b3) (44_tmc R141): the variant row of n runs on the instance. -/
def tmcTuning (slot : Slot) (n : BitVec 4) (b2 b3 : Word) (s : State) : State :=
  updInst slot (runTuning (tuningRow slot n b2 b3)) s

/-- SINGLE (44_tmc R129): the message is emitted at once and the instance does not change. -/
def tmcSingle (slot : Slot) (dp : BitVec 3) (div dir : Bool) (ext : BitVec 3) (evt : BitVec 11) (loc : Word)
    (bt : BitTime) (s : State) : State :=
  withInst slot bt (fun t => (t, some { newMsg true dir ext evt loc with dp := some dp, div := div })) s

/-- FIRST (44_tmc R130). -/
def tmcFirst (slot : Slot) (ci : BitVec 3) (dir : Bool) (ext : BitVec 3) (evt : BitVec 11) (loc : Word)
    (s : State) : State :=
  updInst slot (firstInst ci dir ext evt loc) s

/-- SUBSEQUENT (44_tmc R131). -/
def tmcSubsequent (slot : Slot) (ci : BitVec 3) (sg : Bool) (gsi : BitVec 2) (free12 : BitVec 12) (free16 : Word)
    (bt : BitTime) (s : State) : State :=
  withInst slot bt (subsequentInst slot ci sg gsi free12 free16) s

/-- The effect of a decoded form row. -/
def runTmc (i : Instr) (s : State) : State :=
  match i with
  | .tmcTuning slot n b2 b3 => tmcTuning slot n b2 b3 s
  | .tmcSingle slot dp div dir ext evt loc bt => tmcSingle slot dp div dir ext evt loc bt s
  | .tmcFirst slot ci dir ext evt loc => tmcFirst slot ci dir ext evt loc s
  | .tmcSubsequent slot ci sg gsi free12 free16 bt => tmcSubsequent slot ci sg gsi free12 free16 bt s
  | _ => s

/-- RECV of TMC (44_tmc R127 and R128): decode the form of the forwarded group and run it on the instance of `slot`. -/
def recvTmc (slot : Slot) (g : Group) (s : State) : State :=
  match decodeTmc slot g with
  | .ok i => runTmc i s
  | .error _ => s

/-- RECV of a platform's kind (43_group_types R116): it gets the type and version of block 1, the flags, the values and the
bit-time, and writes its own instance (log 12). -/
def recvPlatform (slot : Slot) (n : Nat) (state : Config.HandlerState) (g : Group) (s : State) : State :=
  s.updSt (Station.setHandler slot
    (.platform n (Config.handlerRecv n state (Slot.ofB1 g.values[1]) g.flags g.values g.bt)))

/-- RECV(t, v, flags, values, bt) (43_group_types R116): the handler of `slot` gets the forwarded group, if there is one. -/
def recv (slot : Slot) (g : Group) (s : State) : State :=
  match s.st.handler? slot with
  | some (.tmc _) => recvTmc slot g s
  | some (.platform n state) => recvPlatform slot n state g s
  | none => s

/-! ## Meanings -/

/-- TMC_TUNING (44_tmc R141). -/
def execTmcTuning (slot : Slot) (n : BitVec 4) (b2 b3 : Word) (s : State) : Host.Outcome State Fault Refusal :=
  .next (tmcTuning slot n b2 b3 s)

/-- TMC_SINGLE (44_tmc R129). -/
def execTmcSingle (slot : Slot) (dp : BitVec 3) (div dir : Bool) (ext : BitVec 3) (evt : BitVec 11) (loc : Word)
    (bt : BitTime) (s : State) : Host.Outcome State Fault Refusal :=
  .next (tmcSingle slot dp div dir ext evt loc bt s)

/-- TMC_FIRST (44_tmc R130). -/
def execTmcFirst (slot : Slot) (ci : BitVec 3) (dir : Bool) (ext : BitVec 3) (evt : BitVec 11) (loc : Word)
    (s : State) : Host.Outcome State Fault Refusal :=
  .next (tmcFirst slot ci dir ext evt loc s)

/-- TMC_SUBSEQUENT (44_tmc R131). -/
def execTmcSubsequent (slot : Slot) (ci : BitVec 3) (sg : Bool) (gsi : BitVec 2) (free12 : BitVec 12) (free16 : Word)
    (bt : BitTime) (s : State) : Host.Outcome State Fault Refusal :=
  .next (tmcSubsequent slot ci sg gsi free12 free16 bt s)

/-- ALERTC_L0 on the pending message of `slot` (44_tmc R136, log 20). -/
def execAlertcL0 (slot : Slot) (val : BitVec 3) (s : State) : Host.Outcome State Fault Refusal :=
  .next (updMsg slot (alertcL0 val) s)

/-- ALERTC_L1 on the pending message of `slot` (44_tmc R136, log 20). -/
def execAlertcL1 (slot : Slot) (val : BitVec 3) (s : State) : Host.Outcome State Fault Refusal :=
  .next (updMsg slot (alertcL1 val) s)

/-- ALERTC_L2 on the pending message of `slot` (44_tmc R136, log 20). -/
def execAlertcL2 (slot : Slot) (val : BitVec 5) (s : State) : Host.Outcome State Fault Refusal :=
  .next (updMsg slot (alertcL2 val) s)

/-- ALERTC_L3 on the pending message of `slot` (44_tmc R136, log 20). -/
def execAlertcL3 (slot : Slot) (val : BitVec 5) (s : State) : Host.Outcome State Fault Refusal :=
  .next (updMsg slot (alertcL3 val) s)

/-- ALERTC_L4 on the pending message of `slot` (44_tmc R136, log 20). -/
def execAlertcL4 (slot : Slot) (val : BitVec 5) (s : State) : Host.Outcome State Fault Refusal :=
  .next (updMsg slot (alertcL4 val) s)

/-- ALERTC_L5 on the pending message of `slot` (44_tmc R136, log 20). -/
def execAlertcL5 (slot : Slot) (val : BitVec 8) (s : State) : Host.Outcome State Fault Refusal :=
  .next (updMsg slot (alertcL5 val) s)

/-- ALERTC_L6 on the pending message of `slot` (44_tmc R136, log 20). -/
def execAlertcL6 (slot : Slot) (val : BitVec 8) (s : State) : Host.Outcome State Fault Refusal :=
  .next (updMsg slot (alertcL6 val) s)

/-- ALERTC_L7 on the pending message of `slot` (44_tmc R136, log 20). -/
def execAlertcL7 (slot : Slot) (val : BitVec 8) (s : State) : Host.Outcome State Fault Refusal :=
  .next (updMsg slot (alertcL7 val) s)

/-- ALERTC_L8 on the pending message of `slot` (44_tmc R136, log 20). -/
def execAlertcL8 (slot : Slot) (val : BitVec 8) (s : State) : Host.Outcome State Fault Refusal :=
  .next (updMsg slot (alertcL8 val) s)

/-- ALERTC_L9 on the pending message of `slot` (44_tmc R136, log 20). -/
def execAlertcL9 (slot : Slot) (val : BitVec 11) (s : State) : Host.Outcome State Fault Refusal :=
  .next (updMsg slot (alertcL9 val) s)

/-- ALERTC_L10 on the pending message of `slot` (44_tmc R136, log 20). -/
def execAlertcL10 (slot : Slot) (val : BitVec 16) (s : State) : Host.Outcome State Fault Refusal :=
  .next (updMsg slot (alertcL10 val) s)

/-- ALERTC_L11 on the pending message of `slot` (44_tmc R136, log 20). -/
def execAlertcL11 (slot : Slot) (val : BitVec 16) (s : State) : Host.Outcome State Fault Refusal :=
  .next (updMsg slot (alertcL11 val) s)

/-- ALERTC_L12 on the pending message of `slot` (44_tmc R136, log 20). -/
def execAlertcL12 (slot : Slot) (val : BitVec 16) (s : State) : Host.Outcome State Fault Refusal :=
  .next (updMsg slot (alertcL12 val) s)

/-- ALERTC_L13 on the pending message of `slot` (44_tmc R136, log 20). -/
def execAlertcL13 (slot : Slot) (val : BitVec 16) (s : State) : Host.Outcome State Fault Refusal :=
  .next (updMsg slot (alertcL13 val) s)

/-- ALERTC_L14 on the pending message of `slot` (44_tmc R136, log 20). -/
def execAlertcL14 (slot : Slot) (s : State) : Host.Outcome State Fault Refusal :=
  .next (updMsg slot alertcL14 s)

/-- ALERTC_L15 on the pending message of `slot` (44_tmc R136, log 20). -/
def execAlertcL15 (slot : Slot) (s : State) : Host.Outcome State Fault Refusal :=
  .next (updMsg slot alertcL15 s)

/-- TMC_TUNING_V0 on the instance of `slot` (44_tmc R141). -/
def execTmcTuningV0 (slot : Slot) (b2 b3 : Word) (s : State) : Host.Outcome State Fault Refusal :=
  .next (updInst slot (tuningV0 b2 b3) s)

/-- TMC_TUNING_V1 on the instance of `slot` (44_tmc R141). -/
def execTmcTuningV1 (slot : Slot) (b2 b3 : Word) (s : State) : Host.Outcome State Fault Refusal :=
  .next (updInst slot (tuningV1 b2 b3) s)

/-- TMC_TUNING_V2 on the instance of `slot` (44_tmc R141). -/
def execTmcTuningV2 (slot : Slot) (b2 b3 : Word) (s : State) : Host.Outcome State Fault Refusal :=
  .next (updInst slot (tuningV2 b2 b3) s)

/-- TMC_TUNING_V3 on the instance of `slot` (44_tmc R141). -/
def execTmcTuningV3 (slot : Slot) (b2 b3 : Word) (s : State) : Host.Outcome State Fault Refusal :=
  .next (updInst slot (tuningV3 b2 b3) s)

/-- TMC_TUNING_V4 on the instance of `slot` (44_tmc R141). -/
def execTmcTuningV4 (slot : Slot) (b2 b3 : Word) (s : State) : Host.Outcome State Fault Refusal :=
  .next (updInst slot (tuningV4 b2 b3) s)

/-- TMC_TUNING_V5 on the instance of `slot` (44_tmc R141). -/
def execTmcTuningV5 (slot : Slot) (b2 b3 : Word) (s : State) : Host.Outcome State Fault Refusal :=
  .next (updInst slot (tuningV5 b2 b3) s)

/-- TMC_TUNING_V6 on the instance of `slot` (44_tmc R141). -/
def execTmcTuningV6 (slot : Slot) (b2 b3 : Word) (s : State) : Host.Outcome State Fault Refusal :=
  .next (updInst slot (tuningV6 b2 b3) s)

/-- TMC_TUNING_V7 on the instance of `slot` (44_tmc R141). -/
def execTmcTuningV7 (slot : Slot) (b2 b3 : Word) (s : State) : Host.Outcome State Fault Refusal :=
  .next (updInst slot (tuningV7 b2 b3) s)

/-- TMC_TUNING_V8 on the instance of `slot` (44_tmc R141). -/
def execTmcTuningV8 (slot : Slot) (b2 b3 : Word) (s : State) : Host.Outcome State Fault Refusal :=
  .next (updInst slot (tuningV8 b2 b3) s)

/-- TMC_TUNING_V9 on the instance of `slot` (44_tmc R141). -/
def execTmcTuningV9 (slot : Slot) (b2 b3 : Word) (s : State) : Host.Outcome State Fault Refusal :=
  .next (updInst slot (tuningV9 b2 b3) s)

/-- TMC_TUNING_V10 on the instance of `slot` (44_tmc R141). -/
def execTmcTuningV10 (slot : Slot) (b2 b3 : Word) (s : State) : Host.Outcome State Fault Refusal :=
  .next (updInst slot (tuningV10 b2 b3) s)

/-- TMC_TUNING_V11 on the instance of `slot` (44_tmc R141). -/
def execTmcTuningV11 (slot : Slot) (b2 b3 : Word) (s : State) : Host.Outcome State Fault Refusal :=
  .next (updInst slot (tuningV11 b2 b3) s)

/-- TMC_TUNING_V12 on the instance of `slot` (44_tmc R141). -/
def execTmcTuningV12 (slot : Slot) (b2 b3 : Word) (s : State) : Host.Outcome State Fault Refusal :=
  .next (updInst slot (tuningV12 b2 b3) s)

/-- TMC_TUNING_V13 on the instance of `slot` (44_tmc R141). -/
def execTmcTuningV13 (slot : Slot) (b2 b3 : Word) (s : State) : Host.Outcome State Fault Refusal :=
  .next (updInst slot (tuningV13 b2 b3) s)

/-- TMC_TUNING_V14 on the instance of `slot` (44_tmc R141). -/
def execTmcTuningV14 (slot : Slot) (b2 b3 : Word) (s : State) : Host.Outcome State Fault Refusal :=
  .next (updInst slot (tuningV14 b2 b3) s)

/-- TMC_TUNING_V15 on the instance of `slot` (44_tmc R141). -/
def execTmcTuningV15 (slot : Slot) (b2 b3 : Word) (s : State) : Host.Outcome State Fault Refusal :=
  .next (updInst slot (tuningV15 b2 b3) s)

end Sys2Proof.Machine
end

