-- ==== Sys2Proof/Machine/GroupTypes.lean ====
section
/-! DEFINITION. The group types (spec 43_group_types): the common fields, one rule per kind of group, and one function and one
meaning per row. A row's meaning is the statistics (42_group_dispatch R102), TP and PTY (R103) and the row's own rule; the PI
step and the gate come before it, in PROCESS (log 18). -/

namespace Sys2Proof.Machine

open Sys2Proof

/-! ## The parts of the rules -/

/-- GSTAT of the (type, version), TP and PTY (42_group_dispatch R102 and R103). -/
def commonFields (slot : Slot) (g : GroupFields) (s : State) : State :=
  s.updSt fun st =>
    { st with
      gstat := st.gstat.set (slotIndex slot) (st.gstat[slotIndex slot] + 1)
      tp := some g.tp
      pty := some g.pty }

/-- Tuning bits and PS of types 0A and 0B (43_group_types R110). -/
def type0 (g : GroupFields) (s : State) : State :=
  let s' := s.updSt (Station.tuningBits g.x)
  match blk3 g with
  | some b3 => s'.updSt fun st => { st with ps := st.ps.write (segmentOf g.x) (hiByte b3) (loByte b3) }
  | none => s'

/-- The AF action of 0A (43_group_types R110 and R111). -/
def type0Af (g : GroupFields) (s : State) : State :=
  match blk2 g with
  | some b2 => s.updSt fun st => { st with af := Config.afUpdate st.af (hiByte b2) (loByte b2) s.tunedFreq }
  | none => s

/-- Slow labelling and PIN (43_group_types R112). -/
def slowLabelling (g : GroupFields) (s : State) : State :=
  let s1 := s.updSt fun st => { st with pagingCfg := some g.x }
  let s2 :=
    match blk3 g with
    | some b3 => s1.updSt fun st => { st with pin := some b3 }
    | none => s1
  match blk2 g with
  | some b2 =>
    let n : Fin 8 := ⟨(b2.extractLsb' 12 3).toNat, (b2.extractLsb' 12 3).isLt⟩
    let s3 := s2.updSt fun st => { st with slc := st.slc.set n (some (b2.extractLsb' 0 12)) }
    if n = 0 then
      s3.updSt fun st => { st with pagingOpc := some (b2.extractLsb' 8 4), ecc := some (b2.extractLsb' 0 8) }
    else s3
  | none => s2

/-- Radiotext (43_group_types R113). -/
def radiotext (g : GroupFields) (s : State) : State :=
  s.updSt fun st => { st with rt := st.rt.write (x4 g.x) (rtPieces g) }

/-- HANDLER_OF (43_group_types R116): TMC at the two AIDs that the spec fixes, and elsewhere what the platform adds. -/
def handlerOf (p : Params) (aid : Word) : Option Config.HandlerKind :=
  if aid = 0xCD46 ∨ aid = 0xCD47 then some .tmc else (p.handlers.find? fun e => e.1 == aid).map Prod.snd

/-- NEW_HANDLER (43_group_types R116). -/
def newHandler (k : Option Config.HandlerKind) : Option Handler :=
  match k with
  | some .tmc => some (.tmc TmcInst.fresh)
  | some (.platform n) => some (.platform n (Config.handlerInit n))
  | none => none

/-- The slot after an announcement of `aid` (43_group_types R115): the same AID keeps its handler. -/
def announced (p : Params) (aid : Word) (o : Option OdaSlot) : OdaSlot :=
  match o with
  | some o => if o.aid = aid then o else ⟨aid, newHandler (handlerOf p aid)⟩
  | none => ⟨aid, newHandler (handlerOf p aid)⟩

/-- ODA_3A (43_group_types R115): route the handler, then forward the announcing group to it. -/
def oda3A (g : GroupFields) (s : State) : State :=
  match blk3 g with
  | none => s
  | some aid =>
    let slot := odaTarget g.x
    let s' := s.updSt fun st =>
      { st with slot := st.slot.set (slotIndex slot) (some (announced s.params aid st.slot[slotIndex slot])) }
    if g.f2 then recv slot (g.group ⟨3, .A⟩) s' else s'

/-- CIVIL(mjd) (43_group_types R120); all divisors are positive, so `/` is the floor division. -/
def civil (mjd : Int) : Int × Int × Int :=
  let z := mjd - 40587 + 719468
  let era := z / 146097
  let doe := z - era * 146097
  let yoe := (doe - doe / 1460 + doe / 36524 - doe / 146096) / 365
  let doy := doe - (365 * yoe + yoe / 4 - yoe / 100)
  let mp := (5 * doy + 2) / 153
  let d := doy - (153 * mp + 2) / 5 + 1
  let mo := if mp < 10 then mp + 3 else mp - 9
  let y := yoe + 400 * era + (if mo ≤ 2 then 1 else 0)
  (y, mo, d)

/-- The clock record of a 4A group's fields (43_group_types R119). -/
def clockOf (mjd : BitVec 17) (hour : BitVec 5) (minute : BitVec 6) (off : Int) : Clock :=
  let utc := civil mjd.toNat
  let tot : Int := mjd.toNat * 1440 + hour.toNat * 60 + minute.toNat + 30 * off
  let lmjd := tot / 1440
  let lm := tot - 1440 * lmjd
  let loc := civil lmjd
  ⟨mjd, utc.1, utc.2.1, utc.2.2, hour, minute, off, loc.1, loc.2.1, loc.2.2, lm / 60, lm % 60⟩

/-- CT_4A (43_group_types R119). -/
def clockTime (g : GroupFields) (s : State) : State :=
  if g.f2 && g.f3 then
    if 23 < (ctHour g).toNat ∨ 59 < (ctMinute g).toNat then s
    else
      let c := clockOf (ctMjd g) (ctHour g) (ctMinute g) (ctOffset g)
      (s.updSt fun st => { st with clock := some c }).emitEvent ⟨g.bt, .clock c⟩
  else s

/-- ODA forwarding to the handler of the group's own slot (43_group_types R117). -/
def odaForward (slot : Slot) (g : GroupFields) (s : State) : State := recv slot (g.group slot) s

/-- 7A (43_group_types R117 and R118): paging when it is active, else ODA forwarding. -/
def pagingOrOda (g : GroupFields) (s : State) : State :=
  if s.st.pagingActive then
    let grp := g.group ⟨7, .A⟩
    s.setPaging (Config.pagingDecode s.paging (g.x.extractLsb' 0 3) grp.flags grp.values grp.bt)
  else odaForward ⟨7, .A⟩ g s

/-- The tuning bits of 15B, from block 1 and again from block 3 (43_group_types R124). -/
def tuning15B (g : GroupFields) (s : State) : State :=
  let s' := s.updSt (Station.tuningBits g.x)
  match blk3 g with
  | some b3 => s'.updSt (Station.tuningBits (b3.extractLsb' 0 5))
  | none => s'

/-! ## The rows -/

/-- Group type 0A (43_group_types R110). -/
def group0A (g : GroupFields) (s : State) : State := type0Af g (type0 g (commonFields ⟨0, .A⟩ g s))

/-- GROUP_0A. -/
def execGroup0A (g : GroupFields) (s : State) : Host.Outcome State Fault Refusal := .next (group0A g s)

/-- Group type 0B (43_group_types R110). -/
def group0B (g : GroupFields) (s : State) : State := type0 g (commonFields ⟨0, .B⟩ g s)

/-- GROUP_0B. -/
def execGroup0B (g : GroupFields) (s : State) : Host.Outcome State Fault Refusal := .next (group0B g s)

/-- Group type 1A (43_group_types R112). -/
def group1A (g : GroupFields) (s : State) : State := slowLabelling g (commonFields ⟨1, .A⟩ g s)

/-- GROUP_1A. -/
def execGroup1A (g : GroupFields) (s : State) : Host.Outcome State Fault Refusal := .next (group1A g s)

/-- Group type 1B (43_group_types R125). -/
def group1B (g : GroupFields) (s : State) : State := commonFields ⟨1, .B⟩ g s

/-- GROUP_1B. -/
def execGroup1B (g : GroupFields) (s : State) : Host.Outcome State Fault Refusal := .next (group1B g s)

/-- Group type 2A (43_group_types R113). -/
def group2A (g : GroupFields) (s : State) : State := radiotext g (commonFields ⟨2, .A⟩ g s)

/-- GROUP_2A. -/
def execGroup2A (g : GroupFields) (s : State) : Host.Outcome State Fault Refusal := .next (group2A g s)

/-- Group type 2B (43_group_types R125). -/
def group2B (g : GroupFields) (s : State) : State := commonFields ⟨2, .B⟩ g s

/-- GROUP_2B. -/
def execGroup2B (g : GroupFields) (s : State) : Host.Outcome State Fault Refusal := .next (group2B g s)

/-- Group type 3A (43_group_types R115). -/
def group3A (g : GroupFields) (s : State) : State := oda3A g (commonFields ⟨3, .A⟩ g s)

/-- GROUP_3A. -/
def execGroup3A (g : GroupFields) (s : State) : Host.Outcome State Fault Refusal := .next (group3A g s)

/-- Group type 3B (43_group_types R125). -/
def group3B (g : GroupFields) (s : State) : State := commonFields ⟨3, .B⟩ g s

/-- GROUP_3B. -/
def execGroup3B (g : GroupFields) (s : State) : Host.Outcome State Fault Refusal := .next (group3B g s)

/-- Group type 4A (43_group_types R119). -/
def group4A (g : GroupFields) (s : State) : State := clockTime g (commonFields ⟨4, .A⟩ g s)

/-- GROUP_4A. -/
def execGroup4A (g : GroupFields) (s : State) : Host.Outcome State Fault Refusal := .next (group4A g s)

/-- Group type 4B (43_group_types R125). -/
def group4B (g : GroupFields) (s : State) : State := commonFields ⟨4, .B⟩ g s

/-- GROUP_4B. -/
def execGroup4B (g : GroupFields) (s : State) : Host.Outcome State Fault Refusal := .next (group4B g s)

/-- Group type 5A (43_group_types R117). -/
def group5A (g : GroupFields) (s : State) : State := odaForward ⟨5, .A⟩ g (commonFields ⟨5, .A⟩ g s)

/-- GROUP_5A. -/
def execGroup5A (g : GroupFields) (s : State) : Host.Outcome State Fault Refusal := .next (group5A g s)

/-- Group type 5B (43_group_types R125). -/
def group5B (g : GroupFields) (s : State) : State := commonFields ⟨5, .B⟩ g s

/-- GROUP_5B. -/
def execGroup5B (g : GroupFields) (s : State) : Host.Outcome State Fault Refusal := .next (group5B g s)

/-- Group type 6A (43_group_types R117). -/
def group6A (g : GroupFields) (s : State) : State := odaForward ⟨6, .A⟩ g (commonFields ⟨6, .A⟩ g s)

/-- GROUP_6A. -/
def execGroup6A (g : GroupFields) (s : State) : Host.Outcome State Fault Refusal := .next (group6A g s)

/-- Group type 6B (43_group_types R125). -/
def group6B (g : GroupFields) (s : State) : State := commonFields ⟨6, .B⟩ g s

/-- GROUP_6B. -/
def execGroup6B (g : GroupFields) (s : State) : Host.Outcome State Fault Refusal := .next (group6B g s)

/-- Group type 7A (43_group_types R117 and R118). -/
def group7A (g : GroupFields) (s : State) : State := pagingOrOda g (commonFields ⟨7, .A⟩ g s)

/-- GROUP_7A. -/
def execGroup7A (g : GroupFields) (s : State) : Host.Outcome State Fault Refusal := .next (group7A g s)

/-- Group type 7B (43_group_types R125). -/
def group7B (g : GroupFields) (s : State) : State := commonFields ⟨7, .B⟩ g s

/-- GROUP_7B. -/
def execGroup7B (g : GroupFields) (s : State) : Host.Outcome State Fault Refusal := .next (group7B g s)

/-- Group type 8A (43_group_types R117). -/
def group8A (g : GroupFields) (s : State) : State := odaForward ⟨8, .A⟩ g (commonFields ⟨8, .A⟩ g s)

/-- GROUP_8A. -/
def execGroup8A (g : GroupFields) (s : State) : Host.Outcome State Fault Refusal := .next (group8A g s)

/-- Group type 8B (43_group_types R125). -/
def group8B (g : GroupFields) (s : State) : State := commonFields ⟨8, .B⟩ g s

/-- GROUP_8B. -/
def execGroup8B (g : GroupFields) (s : State) : Host.Outcome State Fault Refusal := .next (group8B g s)

/-- Group type 9A (43_group_types R117). -/
def group9A (g : GroupFields) (s : State) : State := odaForward ⟨9, .A⟩ g (commonFields ⟨9, .A⟩ g s)

/-- GROUP_9A. -/
def execGroup9A (g : GroupFields) (s : State) : Host.Outcome State Fault Refusal := .next (group9A g s)

/-- Group type 9B (43_group_types R125). -/
def group9B (g : GroupFields) (s : State) : State := commonFields ⟨9, .B⟩ g s

/-- GROUP_9B. -/
def execGroup9B (g : GroupFields) (s : State) : Host.Outcome State Fault Refusal := .next (group9B g s)

/-- Group type 10A (43_group_types R117). -/
def group10A (g : GroupFields) (s : State) : State := odaForward ⟨10, .A⟩ g (commonFields ⟨10, .A⟩ g s)

/-- GROUP_10A. -/
def execGroup10A (g : GroupFields) (s : State) : Host.Outcome State Fault Refusal := .next (group10A g s)

/-- Group type 10B (43_group_types R125). -/
def group10B (g : GroupFields) (s : State) : State := commonFields ⟨10, .B⟩ g s

/-- GROUP_10B. -/
def execGroup10B (g : GroupFields) (s : State) : Host.Outcome State Fault Refusal := .next (group10B g s)

/-- Group type 11A (43_group_types R117). -/
def group11A (g : GroupFields) (s : State) : State := odaForward ⟨11, .A⟩ g (commonFields ⟨11, .A⟩ g s)

/-- GROUP_11A. -/
def execGroup11A (g : GroupFields) (s : State) : Host.Outcome State Fault Refusal := .next (group11A g s)

/-- Group type 11B (43_group_types R125). -/
def group11B (g : GroupFields) (s : State) : State := commonFields ⟨11, .B⟩ g s

/-- GROUP_11B. -/
def execGroup11B (g : GroupFields) (s : State) : Host.Outcome State Fault Refusal := .next (group11B g s)

/-- Group type 12A (43_group_types R117). -/
def group12A (g : GroupFields) (s : State) : State := odaForward ⟨12, .A⟩ g (commonFields ⟨12, .A⟩ g s)

/-- GROUP_12A. -/
def execGroup12A (g : GroupFields) (s : State) : Host.Outcome State Fault Refusal := .next (group12A g s)

/-- Group type 12B (43_group_types R125). -/
def group12B (g : GroupFields) (s : State) : State := commonFields ⟨12, .B⟩ g s

/-- GROUP_12B. -/
def execGroup12B (g : GroupFields) (s : State) : Host.Outcome State Fault Refusal := .next (group12B g s)

/-- Group type 13A (43_group_types R117). -/
def group13A (g : GroupFields) (s : State) : State := odaForward ⟨13, .A⟩ g (commonFields ⟨13, .A⟩ g s)

/-- GROUP_13A. -/
def execGroup13A (g : GroupFields) (s : State) : Host.Outcome State Fault Refusal := .next (group13A g s)

/-- Group type 13B (43_group_types R125). -/
def group13B (g : GroupFields) (s : State) : State := commonFields ⟨13, .B⟩ g s

/-- GROUP_13B. -/
def execGroup13B (g : GroupFields) (s : State) : Host.Outcome State Fault Refusal := .next (group13B g s)

/-- Group type 14A (43_group_types R121). -/
def group14A (g : GroupFields) (s : State) : State := eon14A g (commonFields ⟨14, .A⟩ g s)

/-- GROUP_14A. -/
def execGroup14A (g : GroupFields) (s : State) : Host.Outcome State Fault Refusal := .next (group14A g s)

/-- Group type 14B (43_group_types R123). -/
def group14B (g : GroupFields) (s : State) : State := eon14B g (commonFields ⟨14, .B⟩ g s)

/-- GROUP_14B. -/
def execGroup14B (g : GroupFields) (s : State) : Host.Outcome State Fault Refusal := .next (group14B g s)

/-- Group type 15A (43_group_types R125). -/
def group15A (g : GroupFields) (s : State) : State := commonFields ⟨15, .A⟩ g s

/-- GROUP_15A. -/
def execGroup15A (g : GroupFields) (s : State) : Host.Outcome State Fault Refusal := .next (group15A g s)

/-- Group type 15B (43_group_types R124). -/
def group15B (g : GroupFields) (s : State) : State := tuning15B g (commonFields ⟨15, .B⟩ g s)

/-- GROUP_15B. -/
def execGroup15B (g : GroupFields) (s : State) : Host.Outcome State Fault Refusal := .next (group15B g s)

end Sys2Proof.Machine
end

