-- ==== Sys2Proof/Machine/Gdec.lean ====
section
/-! DEFINITION. GDEC's front end (spec 42_group_dispatch): PI_STEP, the gate, the statistics, the dispatch on the decoded
group-type row, and the loss notification. -/

namespace Sys2Proof.Machine

open Sys2Proof

/-- Track a PI from now on (42_group_dispatch R100). -/
def trackPi (pi : Word) (bt : BitTime) (s : State) : State :=
  ((s.updSt fun st => { st with pi := pi, lastSeen := bt }).setPimis 0).emitEvent ⟨bt, .tuned pi⟩

/-- The three cases of PI_STEP (42_group_dispatch R100). -/
def piCases (pi : Word) (bt : BitTime) (s : State) : State :=
  if s.st.pi = 0 then trackPi pi bt s
  else if pi = s.st.pi then (s.updSt fun st => { st with lastSeen := bt }).setPimis 0
  else if s.params.piTolerance < s.pimis + 1 then
    trackPi pi bt ((s.emitEvent ⟨bt, .lost s.st.pi⟩).updSt fun _ => Station.fresh)
  else s.setPimis (s.pimis + 1)

/-- PI_STEP(pi, bt) (42_group_dispatch R100). -/
def piStep (pi : Word) (bt : BitTime) (s : State) : State :=
  let s' := piCases pi bt s
  if s'.st.pi ≠ 0 ∧ s'.pimis = 0 then s'.setSuppress false else s'

/-- DISPATCH (42_group_dispatch R104): the effect of a decoded group-type row. -/
def runGroup (i : Instr) (s : State) : State :=
  match i with
  | .group0A g => group0A g s
  | .group0B g => group0B g s
  | .group1A g => group1A g s
  | .group1B g => group1B g s
  | .group2A g => group2A g s
  | .group2B g => group2B g s
  | .group3A g => group3A g s
  | .group3B g => group3B g s
  | .group4A g => group4A g s
  | .group4B g => group4B g s
  | .group5A g => group5A g s
  | .group5B g => group5B g s
  | .group6A g => group6A g s
  | .group6B g => group6B g s
  | .group7A g => group7A g s
  | .group7B g => group7B g s
  | .group8A g => group8A g s
  | .group8B g => group8B g s
  | .group9A g => group9A g s
  | .group9B g => group9B g s
  | .group10A g => group10A g s
  | .group10B g => group10B g s
  | .group11A g => group11A g s
  | .group11B g => group11B g s
  | .group12A g => group12A g s
  | .group12B g => group12B g s
  | .group13A g => group13A g s
  | .group13B g => group13B g s
  | .group14A g => group14A g s
  | .group14B g => group14B g s
  | .group15A g => group15A g s
  | .group15B g => group15B g s
  | _ => s

/-- The group counted as unknown (42_group_dispatch R102). -/
def countUnknown (s : State) : State := s.updSt fun st => { st with unknown := st.unknown + 1 }

/-- PROCESS after PI_STEP and the gate (42_group_dispatch R99): statistics, common fields and dispatch. -/
def decodeAndRun (g : Group) (s : State) : State :=
  match decodeGroup g with
  | .ok i => runGroup i s
  | .error _ => countUnknown s

/-- PI_STEP if block 0 is valid and not 0 (42_group_dispatch R99). -/
def piStage (g : Group) (s : State) : State :=
  if groupPiv g then piStep g.values[0] g.bt s else s

/-- PROCESS(vc, flags, values, bt) (42_group_dispatch R99). -/
def process (g : Group) (s : State) : State :=
  let s' := piStage g s
  if gateShut g s' then s' else decodeAndRun g s'

/-- SYNC_LOSS() (42_group_dispatch R105). -/
def syncLoss (s : State) : State := (s.setSuppress true).setPimis 0

end Sys2Proof.Machine
end

