-- ==== Sys2Proof/Machine/SynRom.lean ====
section
/-! DEFINITION. SYNROM (spec 40_syndrome_rom): the two mask ROMs, SYNDROME, MATCH and POS, and the transmitter's rule for
valid codewords (30_encoding R63), which no operation of the block computes. -/

namespace Sys2Proof.Machine

open Sys2Proof

/-- ROM_H (40_syndrome_rom R77). -/
def romH : List Syndrome :=
  [0x200, 0x100, 0x080, 0x040, 0x020, 0x010, 0x008, 0x004, 0x002, 0x001, 0x2DC, 0x16E, 0x0B7,
   0x287, 0x39F, 0x313, 0x355, 0x376, 0x1BB, 0x201, 0x3DC, 0x1EE, 0x0F7, 0x2A7, 0x38F, 0x31B]

/-- MemRead(ROM_H, i, 10) (00_scope R12). -/
def romHRow (i : Nat) : Syndrome := romH.getD i 0

/-- ROM_SYN (40_syndrome_rom R80): entry 2p + k. -/
def romSyn : List Syndrome := [0x3D8, 0x3D8, 0x3D4, 0x3D4, 0x25C, 0x3CC, 0x258, 0x258]

/-- MemRead(ROM_SYN, i, 10) (00_scope R12). -/
def romSynEntry (i : Nat) : Syndrome := romSyn.getD i 0

/-- SYNDROME(w) (40_syndrome_rom R81). -/
def syndrome (w : Codeword) : Syndrome :=
  (List.range 26).foldl (fun s i => if w.getLsbD (25 - i) then s ^^^ romHRow i else s) 0

/-- MATCH(s)[p] (40_syndrome_rom R83). -/
def matchAt (s : Syndrome) (p : Fin 4) : Bool :=
  s == romSynEntry (2 * p.val) || s == romSynEntry (2 * p.val + 1)

/-- POS(s) (40_syndrome_rom R83). -/
def pos (s : Syndrome) : Option (Fin 4) := [0, 1, 2, 3].find? (matchAt s)

/-- The information bits of a codeword: w[25:10] (30_encoding R62). -/
def infoBits (w : Codeword) : Word := w.extractLsb' 10 16

/-- One step of the recurrence that generates ROM_H (40_syndrome_rom R78). -/
def romHNext (row : Syndrome) : Syndrome :=
  if row.getLsbD 0 then (((row.setWidth 11) ^^^ (0x5B9 : BitVec 11)) >>> 1).setWidth 10 else row >>> 1

/-- The check bits of an information word, without an offset: m(x) * x^10 mod g(x) (30_encoding R63), by long division. -/
def checkBits (m : Word) : Syndrome :=
  ((List.range 16).foldl
    (fun (r : Codeword) k => if r.getLsbD (25 - k) then r ^^^ ((0x5B9 : Codeword) <<< (15 - k)) else r)
    (m ++ (0 : BitVec 10))).setWidth 10

/-- The offset words A, B, C, C' and D (40_syndrome_rom R79). -/
inductive Offset
  | a
  | b
  | c
  | c'
  | d
deriving DecidableEq, Repr

/-- The 10 bits of an offset word (40_syndrome_rom R79). -/
def Offset.word : Offset → Syndrome
  | .a => 0x0FC
  | .b => 0x198
  | .c => 0x168
  | .c' => 0x350
  | .d => 0x1B4

/-- The block position of an offset word (40_syndrome_rom R79). -/
def Offset.position : Offset → Fin 4
  | .a => 0
  | .b => 1
  | .c => 2
  | .c' => 2
  | .d => 3

/-- The valid codeword of an information word with an offset (30_encoding R63). -/
def codeword (m : Word) (o : Offset) : Codeword := m ++ (checkBits m ^^^ o.word)

end Sys2Proof.Machine
end

