-- ==== Sys2Proof/Machine/Bsync.lean ====
section
/-! DEFINITION. BSYNC (spec 41_synchronizer): ACQUIRE, DECLARE, FRAME, COMPLETE and LOSE, and the step of one bit. -/

namespace Sys2Proof.Machine

open Sys2Proof

/-- Every bucket empty (41_synchronizer R89 and R92). -/
def emptyHist : Vector (List BitTime) 104 := Vector.replicate 104 []

/-- The bucket key (BT - 26p) mod 104, the non-negative remainder (41_synchronizer R88, log 16). -/
def bucketKey (bt : BitTime) (p : Fin 4) : Fin 104 := ⟨(bt.toNat + 104 - 26 * p.val) % 104, Nat.mod_lt _ (by decide)⟩

/-- The bucket after the append of 41_synchronizer R88: entries older than SYNC_CONFIRM_BITS purged, BT added. -/
def purgeAppend (bt : BitTime) (bucket : List BitTime) : List BitTime :=
  (bucket.filter fun t => decide ((bt - t).toNat ≤ Config.syncConfirmBits)) ++ [bt]

/-- DECLARE(p) (41_synchronizer R89). -/
def declare (p : Fin 4) (s : State) : State :=
  let val := if p.val < 3 then (Vector.replicate 4 0).set p (infoBits s.sr) else Vector.replicate 4 0
  let flg := if p.val < 3 then (Vector.replicate 4 false).set p true else Vector.replicate 4 false
  ((((((s.setSync .synced).setCur (p + 1)).setBcnt 0).setGroupBuffer val flg).setHist emptyHist).setBadg 0).logSync
    (.acquired s.bt p)

/-- The record of a match at position p (41_synchronizer R88). -/
def recordMatch (p : Fin 4) (s : State) : State :=
  let key := bucketKey s.bt p
  let bucket := purgeAppend s.bt s.hist[key]
  let s' := s.setHist (s.hist.set key bucket)
  if Config.syncThreshold < bucket.length then declare p s' else s'

/-- ACQUIRE() (41_synchronizer R88). -/
def acquire (s : State) : State :=
  if s.bt.toNat < Config.acqGuard then s
  else
    match pos (syndrome s.sr) with
    | none => s
    | some p => recordMatch p s

/-- LOSE() (41_synchronizer R92). -/
def lose (s : State) : State :=
  syncLoss (((((s.setSync .unsynced).setBadg 0).setBcnt 0).setHist emptyHist).logSync (.lostSync s.bt))

/-- The group COMPLETE emits (41_synchronizer R91). -/
def completedGroup (s : State) : Group := Group.of s.gflg s.gval s.bt

/-- The flags cleared after a group, the values kept (41_synchronizer R91). -/
def clearFlags (s : State) : State := s.setGroupBuffer s.gval (Vector.replicate 4 false)

/-- BADG after a group (41_synchronizer R91). -/
def badgAfter (g : Group) (badg : Nat) : Nat := if g.vc = 0 then badg + 1 else 0

/-- COMPLETE() (41_synchronizer R91). -/
def complete (s : State) : State :=
  let g := completedGroup s
  let s1 := process g (s.emitGroup g)
  let s2 := s1.setBadg (badgAfter g s1.badg)
  clearFlags (if Config.syncLossGroups ≤ s2.badg then lose s2 else s2)

/-- The block at CUR framed into the group buffer (41_synchronizer R90). -/
def frameBlock (s : State) : State :=
  (s.setBcnt 0).setGroupBuffer (s.gval.set s.cur (infoBits s.sr)) (s.gflg.set s.cur (matchAt (syndrome s.sr) s.cur))

/-- FRAME() (41_synchronizer R90). -/
def frame (s : State) : State :=
  if s.bcnt + 1 < 26 then s.setBcnt (s.bcnt + 1)
  else
    let s1 := frameBlock s
    let s2 := if s.cur = 3 then complete s1 else s1
    s2.setCur (s.cur + 1)

/-- BIT(b) once accepted (41_synchronizer R87). -/
def bitStep (b : Bool) (s : State) : State :=
  let s' := s.shiftIn b
  match s'.sync with
  | .unsynced => acquire s'
  | .synced => frame s'

end Sys2Proof.Machine
end

