-- ==== Sys2Proof/Machine/Commands.lean ====
section
/-! DEFINITION. The meanings of the commands other than the location queries (30_encoding R60). -/

namespace Sys2Proof.Machine

open Sys2Proof

/-- RESERVED_0 (60_exceptions R156). -/
def execReserved0 (s : State) : Host.Outcome State Fault Refusal := .next (s.raise .badOp)

/-- RESERVED_9 (60_exceptions R156). -/
def execReserved9 (s : State) : Host.Outcome State Fault Refusal := .next (s.raise .badOp)

/-- RESERVED_A (60_exceptions R156). -/
def execReservedA (s : State) : Host.Outcome State Fault Refusal := .next (s.raise .badOp)

/-- RESERVED_B (60_exceptions R156). -/
def execReservedB (s : State) : Host.Outcome State Fault Refusal := .next (s.raise .badOp)

/-- RESERVED_C (60_exceptions R156). -/
def execReservedC (s : State) : Host.Outcome State Fault Refusal := .next (s.raise .badOp)

/-- RESERVED_D (60_exceptions R156). -/
def execReservedD (s : State) : Host.Outcome State Fault Refusal := .next (s.raise .badOp)

/-- RESERVED_E (60_exceptions R156). -/
def execReservedE (s : State) : Host.Outcome State Fault Refusal := .next (s.raise .badOp)

/-- RESERVED_F (60_exceptions R156). -/
def execReservedF (s : State) : Host.Outcome State Fault Refusal := .next (s.raise .badOp)

/-- The engine after RESET (70_reset_and_hazards R163 and R164): the reset table, the output streams kept. -/
def resetEngine (e : Engine) : Engine :=
  { Engine.reset with events := e.events, groups := e.groups, synclog := e.synclog, tmcout := e.tmcout }

/-- RESET (70_reset_and_hazards R163), accepted in every state. -/
def execReset (s : State) : Host.Outcome State Fault Refusal :=
  .next { s with toEngine := resetEngine s.toEngine, reply := .done }

/-- BIT (41_synchronizer R87). -/
def execBit (b : Bool) (s : State) : Host.Outcome State Fault Refusal :=
  unlessHalted s ((bitStep b s).setReply .done)

/-- EOS once accepted (41_synchronizer R93). -/
def endOfStream (s : State) : State :=
  let s' := if s.st.pi ≠ 0 then s.emitEvent ⟨s.bt, .lost s.st.pi⟩ else s
  (s'.emitEvent ⟨s.bt, .eos⟩).setHalted true

/-- EOS (41_synchronizer R93). -/
def execEos (s : State) : Host.Outcome State Fault Refusal :=
  unlessHalted s ((endOfStream s).setReply .done)

/-- GROUP_IN (41_synchronizer R94): the valid count is computed (30_encoding R61). -/
def execGroupIn (flags : Vector Bool 4) (values : Vector Word 4) (bt : BitTime) (s : State) :
    Host.Outcome State Fault Refusal :=
  unlessHalted s ((process (Group.of flags values bt) s).setReply .done)

/-- SNAPSHOT (20_memory R58): the image of the engine, and no change to it. -/
def execSnapshot (s : State) : Host.Outcome State Fault Refusal :=
  .next (s.setReply (.image s.toEngine))

end Sys2Proof.Machine
end

