-- ==== Sys2Proof/Machine/Dispatch.lean ====
section
/-! DEFINITION. The meaning of every instruction: one arm per row of spec/opcode_table.json. -/

namespace Sys2Proof.Machine

open Sys2Proof

def exec (i : Instr) (s : State) : Host.Outcome State Fault Refusal :=
  match i with
  | .reserved0 => Sys2Proof.Machine.execReserved0 s
  | .reset => Sys2Proof.Machine.execReset s
  | .bit b => Sys2Proof.Machine.execBit b s
  | .eos => Sys2Proof.Machine.execEos s
  | .groupIn flags values bt => Sys2Proof.Machine.execGroupIn flags values bt s
  | .snapshot => Sys2Proof.Machine.execSnapshot s
  | .locOffset dir key extent => Sys2Proof.Machine.execLocOffset dir key extent s
  | .locEnclosing self secondary => Sys2Proof.Machine.execLocEnclosing self secondary s
  | .locCompare neg lhs rhs => Sys2Proof.Machine.execLocCompare neg lhs rhs s
  | .reserved9 => Sys2Proof.Machine.execReserved9 s
  | .reservedA => Sys2Proof.Machine.execReservedA s
  | .reservedB => Sys2Proof.Machine.execReservedB s
  | .reservedC => Sys2Proof.Machine.execReservedC s
  | .reservedD => Sys2Proof.Machine.execReservedD s
  | .reservedE => Sys2Proof.Machine.execReservedE s
  | .reservedF => Sys2Proof.Machine.execReservedF s
  | .group0A g => Sys2Proof.Machine.execGroup0A g s
  | .group0B g => Sys2Proof.Machine.execGroup0B g s
  | .group1A g => Sys2Proof.Machine.execGroup1A g s
  | .group1B g => Sys2Proof.Machine.execGroup1B g s
  | .group2A g => Sys2Proof.Machine.execGroup2A g s
  | .group2B g => Sys2Proof.Machine.execGroup2B g s
  | .group3A g => Sys2Proof.Machine.execGroup3A g s
  | .group3B g => Sys2Proof.Machine.execGroup3B g s
  | .group4A g => Sys2Proof.Machine.execGroup4A g s
  | .group4B g => Sys2Proof.Machine.execGroup4B g s
  | .group5A g => Sys2Proof.Machine.execGroup5A g s
  | .group5B g => Sys2Proof.Machine.execGroup5B g s
  | .group6A g => Sys2Proof.Machine.execGroup6A g s
  | .group6B g => Sys2Proof.Machine.execGroup6B g s
  | .group7A g => Sys2Proof.Machine.execGroup7A g s
  | .group7B g => Sys2Proof.Machine.execGroup7B g s
  | .group8A g => Sys2Proof.Machine.execGroup8A g s
  | .group8B g => Sys2Proof.Machine.execGroup8B g s
  | .group9A g => Sys2Proof.Machine.execGroup9A g s
  | .group9B g => Sys2Proof.Machine.execGroup9B g s
  | .group10A g => Sys2Proof.Machine.execGroup10A g s
  | .group10B g => Sys2Proof.Machine.execGroup10B g s
  | .group11A g => Sys2Proof.Machine.execGroup11A g s
  | .group11B g => Sys2Proof.Machine.execGroup11B g s
  | .group12A g => Sys2Proof.Machine.execGroup12A g s
  | .group12B g => Sys2Proof.Machine.execGroup12B g s
  | .group13A g => Sys2Proof.Machine.execGroup13A g s
  | .group13B g => Sys2Proof.Machine.execGroup13B g s
  | .group14A g => Sys2Proof.Machine.execGroup14A g s
  | .group14B g => Sys2Proof.Machine.execGroup14B g s
  | .group15A g => Sys2Proof.Machine.execGroup15A g s
  | .group15B g => Sys2Proof.Machine.execGroup15B g s
  | .tmcTuning slot n b2 b3 => Sys2Proof.Machine.execTmcTuning slot n b2 b3 s
  | .tmcSingle slot dp div dir ext evt loc bt => Sys2Proof.Machine.execTmcSingle slot dp div dir ext evt loc bt s
  | .tmcFirst slot ci dir ext evt loc => Sys2Proof.Machine.execTmcFirst slot ci dir ext evt loc s
  | .tmcSubsequent slot ci sg gsi free12 free16 bt => Sys2Proof.Machine.execTmcSubsequent slot ci sg gsi free12 free16 bt s
  | .alertcL0 slot val => Sys2Proof.Machine.execAlertcL0 slot val s
  | .alertcL1 slot val => Sys2Proof.Machine.execAlertcL1 slot val s
  | .alertcL2 slot val => Sys2Proof.Machine.execAlertcL2 slot val s
  | .alertcL3 slot val => Sys2Proof.Machine.execAlertcL3 slot val s
  | .alertcL4 slot val => Sys2Proof.Machine.execAlertcL4 slot val s
  | .alertcL5 slot val => Sys2Proof.Machine.execAlertcL5 slot val s
  | .alertcL6 slot val => Sys2Proof.Machine.execAlertcL6 slot val s
  | .alertcL7 slot val => Sys2Proof.Machine.execAlertcL7 slot val s
  | .alertcL8 slot val => Sys2Proof.Machine.execAlertcL8 slot val s
  | .alertcL9 slot val => Sys2Proof.Machine.execAlertcL9 slot val s
  | .alertcL10 slot val => Sys2Proof.Machine.execAlertcL10 slot val s
  | .alertcL11 slot val => Sys2Proof.Machine.execAlertcL11 slot val s
  | .alertcL12 slot val => Sys2Proof.Machine.execAlertcL12 slot val s
  | .alertcL13 slot val => Sys2Proof.Machine.execAlertcL13 slot val s
  | .alertcL14 slot => Sys2Proof.Machine.execAlertcL14 slot s
  | .alertcL15 slot => Sys2Proof.Machine.execAlertcL15 slot s
  | .eon14aV0 piOn b2 => Sys2Proof.Machine.execEon14aV0 piOn b2 s
  | .eon14aV1 piOn b2 => Sys2Proof.Machine.execEon14aV1 piOn b2 s
  | .eon14aV2 piOn b2 => Sys2Proof.Machine.execEon14aV2 piOn b2 s
  | .eon14aV3 piOn b2 => Sys2Proof.Machine.execEon14aV3 piOn b2 s
  | .eon14aV4 piOn b2 => Sys2Proof.Machine.execEon14aV4 piOn b2 s
  | .eon14aV5 piOn b2 => Sys2Proof.Machine.execEon14aV5 piOn b2 s
  | .eon14aV6 piOn b2 => Sys2Proof.Machine.execEon14aV6 piOn b2 s
  | .eon14aV7 piOn b2 => Sys2Proof.Machine.execEon14aV7 piOn b2 s
  | .eon14aV8 piOn b2 => Sys2Proof.Machine.execEon14aV8 piOn b2 s
  | .eon14aV9 piOn b2 => Sys2Proof.Machine.execEon14aV9 piOn b2 s
  | .eon14aV10 piOn b2 => Sys2Proof.Machine.execEon14aV10 piOn b2 s
  | .eon14aV11 piOn b2 => Sys2Proof.Machine.execEon14aV11 piOn b2 s
  | .eon14aV12 piOn b2 => Sys2Proof.Machine.execEon14aV12 piOn b2 s
  | .eon14aV13 piOn b2 => Sys2Proof.Machine.execEon14aV13 piOn b2 s
  | .eon14aV14 piOn b2 => Sys2Proof.Machine.execEon14aV14 piOn b2 s
  | .eon14aV15 piOn b2 => Sys2Proof.Machine.execEon14aV15 piOn b2 s
  | .tmcTuningV0 slot b2 b3 => Sys2Proof.Machine.execTmcTuningV0 slot b2 b3 s
  | .tmcTuningV1 slot b2 b3 => Sys2Proof.Machine.execTmcTuningV1 slot b2 b3 s
  | .tmcTuningV2 slot b2 b3 => Sys2Proof.Machine.execTmcTuningV2 slot b2 b3 s
  | .tmcTuningV3 slot b2 b3 => Sys2Proof.Machine.execTmcTuningV3 slot b2 b3 s
  | .tmcTuningV4 slot b2 b3 => Sys2Proof.Machine.execTmcTuningV4 slot b2 b3 s
  | .tmcTuningV5 slot b2 b3 => Sys2Proof.Machine.execTmcTuningV5 slot b2 b3 s
  | .tmcTuningV6 slot b2 b3 => Sys2Proof.Machine.execTmcTuningV6 slot b2 b3 s
  | .tmcTuningV7 slot b2 b3 => Sys2Proof.Machine.execTmcTuningV7 slot b2 b3 s
  | .tmcTuningV8 slot b2 b3 => Sys2Proof.Machine.execTmcTuningV8 slot b2 b3 s
  | .tmcTuningV9 slot b2 b3 => Sys2Proof.Machine.execTmcTuningV9 slot b2 b3 s
  | .tmcTuningV10 slot b2 b3 => Sys2Proof.Machine.execTmcTuningV10 slot b2 b3 s
  | .tmcTuningV11 slot b2 b3 => Sys2Proof.Machine.execTmcTuningV11 slot b2 b3 s
  | .tmcTuningV12 slot b2 b3 => Sys2Proof.Machine.execTmcTuningV12 slot b2 b3 s
  | .tmcTuningV13 slot b2 b3 => Sys2Proof.Machine.execTmcTuningV13 slot b2 b3 s
  | .tmcTuningV14 slot b2 b3 => Sys2Proof.Machine.execTmcTuningV14 slot b2 b3 s
  | .tmcTuningV15 slot b2 b3 => Sys2Proof.Machine.execTmcTuningV15 slot b2 b3 s

end Sys2Proof.Machine
end

