-- ==== Sys2Proof/Machine/HexDump.lean ====
section
/-! DEFINITION. The group hex-dump format (30_encoding R72), the block's textual input notation: the writer of a group line,
the reader of a line, and the reader of a dump into port items. Text is a list of characters. -/

namespace Sys2Proof.Machine

open Sys2Proof

/-- A space or a tab (30_encoding R72). -/
def isBlank (c : Char) : Bool := c == ' ' || c == '\t'

/-- The fields of a line, separated by blanks; `cur` is the field being read, reversed. -/
def splitFields (cur : List Char) : List Char → List (List Char)
  | [] => if cur.isEmpty then [] else [cur.reverse]
  | c :: cs =>
    if isBlank c then
      if cur.isEmpty then splitFields [] cs else cur.reverse :: splitFields [] cs
    else splitFields (c :: cur) cs

/-- The digits a writer emits (30_encoding R72): uppercase. -/
def hexChars : List Char := "0123456789ABCDEF".toList

/-- The lowercase digits a reader accepts too (30_encoding R72). -/
def hexCharsLower : List Char := "0123456789abcdef".toList

/-- The value of a hex digit, upper or lower case (30_encoding R72). -/
def hexDigit (c : Char) : Option Nat :=
  match hexChars.findIdx? (· == c) with
  | some n => some n
  | none => hexCharsLower.findIdx? (· == c)

/-- A block field: four hex digits, or the mark of an invalid block (30_encoding R72): its flag and its value. -/
def readBlock (f : List Char) : Option (Bool × Word) :=
  if f = "----".toList then some (false, 0)
  else
    match f with
    | [a, b, c, d] => do
      let a ← hexDigit a
      let b ← hexDigit b
      let c ← hexDigit c
      let d ← hexDigit d
      return (true, BitVec.ofNat 16 (4096 * a + 256 * b + 16 * c + d))
    | _ => none

/-- A decimal number: one or more digits. -/
def readDecimal : List Char → Option Nat
  | [] => none
  | cs =>
    cs.foldl (fun acc c =>
      match acc, ("0123456789".toList).findIdx? (· == c) with
      | some n, some d => some (10 * n + d)
      | _, _ => none) (some 0)

/-- What a line of a hex dump is (30_encoding R72). -/
inductive HexLine
  | group (flags : Vector Bool 4) (values : Vector Word 4)
  | freq (khz : Nat)
  | ignored
  | error
deriving DecidableEq, Repr

/-- A metadata line after its percent sign (30_encoding R72). DESIGN CHOICE: any number of blanks may stand after the percent
sign, none among them, one or more between Freq and the number, and any number after it; the name is read in exactly these
letters and cases; and the number is one or more decimal digits (log 22). -/
def readMeta (rest : List Char) : HexLine :=
  match splitFields [] rest with
  | [name, khz] =>
    if name = "Freq".toList then
      match readDecimal khz with
      | some n => .freq n
      | none => .ignored
    else .ignored
  | _ => .ignored

/-- A group line (30_encoding R72): four fields, or an error. -/
def readGroup (line : List Char) : HexLine :=
  match (splitFields [] line).map readBlock with
  | [some a, some b, some c, some d] => .group #v[a.1, b.1, c.1, d.1] #v[a.2, b.2, c.2, d.2]
  | _ => .error

/-- One line (30_encoding R72). DESIGN CHOICE: a line of blanks only counts as empty and is ignored, which R72 does not say;
and so is a percent line with Freq but no decimal number (log 22). -/
def readLine (line : List Char) : HexLine :=
  match line.dropWhile isBlank with
  | [] => .ignored
  | c :: rest => if c = '%' then readMeta rest else if c = '<' then .ignored else readGroup line

/-- The four digits of a value, or the mark of an invalid block (30_encoding R72). -/
def writeBlock (flag : Bool) (v : Word) : List Char :=
  if flag then
    [hexChars.getD (v.toNat / 4096) '0', hexChars.getD (v.toNat / 256 % 16) '0',
     hexChars.getD (v.toNat / 16 % 16) '0', hexChars.getD (v.toNat % 16) '0']
  else "----".toList

/-- The line of a group: exactly one space between fields (30_encoding R72). -/
def writeGroup (flags : Vector Bool 4) (values : Vector Word 4) : List Char :=
  writeBlock flags[0] values[0] ++ [' '] ++ writeBlock flags[1] values[1] ++ [' '] ++
    writeBlock flags[2] values[2] ++ [' '] ++ writeBlock flags[3] values[3]

/-- A dump as the host replays it: its port items in order, and the numbers of the refused lines (30_encoding R72). -/
structure Dump where
  items : List PortItem
  refused : List Nat
deriving DecidableEq, Repr

/-- The command frame of a GROUP_IN (30_encoding R60). -/
def groupInFrame (flags : Vector Bool 4) (values : Vector Word 4) (bt : BitTime) : Frame :=
  { Frame.ofWord (commandWord (flagNibble flags) 0x4) with values := values, bt := bt }

/-- The bit-time of the n-th group line where the host supplies none (30_encoding R72). -/
def replayTime (n : Nat) : BitTime := BitVec.ofNat 64 (104 * n)

/-- The reader from a line number on, after `n` group lines: the n-th group line is delivered with the bit-time
`time n` (30_encoding R72). -/
def readDumpFrom (time : Nat → BitTime) (lineNo n : Nat) : List (List Char) → Dump
  | [] => ⟨[], []⟩
  | l :: ls =>
    match readLine l with
    | .group flags values =>
      let d := readDumpFrom time (lineNo + 1) (n + 1) ls
      { d with items := .command (groupInFrame flags values (time (n + 1))) :: d.items }
    | .freq khz =>
      let d := readDumpFrom time (lineNo + 1) n ls
      { d with items := .setFreq (some khz) :: d.items }
    | .ignored => readDumpFrom time (lineNo + 1) n ls
    | .error =>
      let d := readDumpFrom time (lineNo + 1) n ls
      { d with refused := lineNo :: d.refused }

/-- A whole dump, its lines numbered from 1, with bit-times that the host supplies of its own (30_encoding R72). -/
def readDumpWith (time : Nat → BitTime) (lines : List (List Char)) : Dump := readDumpFrom time 1 0 lines

/-- A whole dump, the n-th group line with bt = 104 n (30_encoding R72). -/
def readDump (lines : List (List Char)) : Dump := readDumpWith replayTime lines

end Sys2Proof.Machine
end

