-- ==== Sys2Proof/Machine/Step.lean ====
section
/-! DEFINITION. One step of the machine: it takes the host's next port item. A command is fetched, decoded and executed as one
atomic step (20_memory R53 and R56). -/

namespace Sys2Proof.Machine

open Sys2Proof

/-- The step of one port item, `rest` being the items after it. -/
def portStep (item : PortItem) (rest : List PortItem) (s : State) : Host.Outcome State Fault Refusal :=
  match item with
  | .command f => exec (decodeCommand f) (s.setPort rest)
  | .setFreq khz => .next ((s.setPort rest).setFreq khz)
  | .loadTable _ => .refused .tableChange
  | .setParams _ => .refused .parameterChange

/-- One step: with nothing at the port the engine waits and nothing changes (log 2). -/
def step (s : State) : Host.Outcome State Fault Refusal :=
  match s.port with
  | [] => .next s
  | item :: rest => portStep item rest s

/-- The command that carries a group: its GROUP_IN (30_encoding R60). -/
def groupItem (g : Group) : PortItem := .command (groupInFrame g.flags g.values g.bt)

/-- `s` with a table word where `step` takes its next instruction (log 14): a command word at the port; block 1 of a group in
a GROUP_IN that passes the gate; the key of a TMC form in an 8A group, the slot 8A holding a TMC instance. -/
def State.withFetchWord (s : State) (nbits w : Nat) : State :=
  if nbits ≤ 8 then s.setPort (.command (.ofWord (BitVec.ofNat 8 w)) :: s.port)
  else if nbits ≤ 16 then
    ((s.setPort (groupItem (groupOfTableWord w) :: s.port)).setSuppress false).setHalted false
  else
    (((s.setPort (groupItem (tmcGroupOfTableWord w) :: s.port)).setSuppress false).setHalted false).updSt fun st =>
      { st with slot := st.slot.set (slotIndex tableSlot) (some ⟨0xCD46, some (.tmc TmcInst.fresh)⟩) }

end Sys2Proof.Machine
end

