-- ==== Sys2Proof/Safety.lean ====
section
/-! DEFINITION. What a good state is: the ranges, bounds and canonical forms the spec gives between steps. `Inv` is meant to be
kept by every step that answers a next state. -/

namespace Sys2Proof.Machine

open Sys2Proof

/-- BSYNC between steps (10_state R18, R20, R24; 41_synchronizer R95): ranges, bucket bound, and what each framing state
implies. -/
structure BsyncOk (s : State) : Prop where
  bcnt : s.bcnt < 26
  badg : s.badg < Config.syncLossGroups
  bucket : ∀ k : Fin 104, s.hist[k].length ≤ Config.syncThreshold
  synced : s.sync = .synced → s.hist = emptyHist
  unsynced : s.sync = .unsynced → s.bcnt = 0 ∧ s.badg = 0 ∧ s.gflg = Vector.replicate 4 false

/-- A PS unit's history is bounded and its values are distinct (10_state R32). -/
def PsUnit.Ok (u : PsUnit) : Prop :=
  u.hist.length ≤ Config.psHistCap ∧ u.hist.Pairwise fun a b => a.value ≠ b.value

/-- An ON record is bounded (10_state R37). -/
def OtherNetwork.Ok (r : OtherNetwork) : Prop := r.ps.Ok ∧ r.mapped.length ≤ Config.tripleCap

/-- A TMC instance between steps (10_state R39, 44_tmc R134): nothing is kept without a pending message, the queue holds
less than one record, and the table ONAF is bounded and in order. -/
structure TmcInst.Ok (t : TmcInst) : Prop where
  idle : t.msg = none → t.ci = none ∧ t.next = none ∧ t.total = none ∧ t.q = []
  pending : t.msg.isSome → t.ci.isSome ∧ t.next.isSome
  next : ∀ n, t.next = some n → 1 ≤ n ∧ n ≤ 7
  total : ∀ n, t.total = some n → 2 ≤ n ∧ n ≤ 5
  queue : takeRecord t.q = none ∧ t.q.length ≤ 19
  onaf : tabWf OnafEntry.pi t.onaf ∧ t.onaf.length ≤ Config.eonCap
  triples : ∀ e ∈ t.onaf, e.triples.length ≤ Config.tripleCap

/-- The kind of a handler instance (43_group_types R116). -/
def Handler.kind : Handler → Config.HandlerKind
  | .tmc _ => .tmc
  | .platform n _ => .platform n

/-- A slot's handler is of the kind its AID selects (43_group_types R115 and R116), and is in order. -/
def OdaSlot.Ok (p : Params) (o : OdaSlot) : Prop :=
  o.handler.map Handler.kind = handlerOf p o.aid ∧ ∀ t, o.handler = some (.tmc t) → t.Ok

/-- The station's bounded tables (10_state R32, R33, R37 and R38). -/
structure Station.Ok (p : Params) (st : Station) : Prop where
  ps : st.ps.Ok
  arch : st.rt.arch.length ≤ Config.rtArchiveDepth
  eon : tabWf OtherNetwork.pi st.eon ∧ st.eon.length ≤ Config.eonCap
  networks : ∀ r ∈ st.eon, r.Ok
  slots : ∀ k : Fin 32, ∀ o, st.slot[k] = some o → o.Ok p

/-- PI tracking (10_state R27 and R28): an open gate means a tracked station, and PIMIS stays within the tolerance. -/
structure PiOk (s : State) : Prop where
  tracked : s.suppress = false → s.st.pi ≠ 0
  tolerated : s.pimis ≤ s.params.piTolerance

/-- The invariant of the machine between steps. -/
structure Inv (s : State) : Prop where
  bsync : BsyncOk s
  pi : PiOk s
  station : s.st.Ok s.params
  memory : Memory.wf s.lt

/-- A step that stops neither in a fault nor in a refusal. -/
def Runs (o : Host.Outcome State Fault Refusal) : Prop := ∃ t, o = .next t

/-- An LT with an acyclic parent relation (20_memory R49): some rank falls from every record to its parent. -/
def Memory.ParentsAcyclic (m : Memory) : Prop :=
  ∃ rank : LocKey → Nat, ∀ k p, parent m k = some p → rank p < rank k

/-- An LT with acyclic offset chains (20_memory R49): some rank rises along `pos` and falls along `neg`. -/
def Memory.OffsetsAcyclic (m : Memory) : Prop :=
  ∃ rank : LocKey → Nat, (∀ k n, neighbour m .pos k = some n → rank k < rank n) ∧
    ∀ k n, neighbour m .neg k = some n → rank n < rank k

/-! ## The vocabulary of the statements -/

/-- BIT commands one after another, as long as each answers a next state. -/
def feedBits : List Bool → State → State
  | [], s => s
  | b :: bs, s =>
    match exec (.bit b) s with
    | .next t => feedBits bs t
    | .fault _ => s
    | .refused _ => s

/-- SR after a bit (41_synchronizer R87). -/
def srAfter (b : Bool) (s : State) : Codeword := s.sr.extractLsb' 0 25 ++ BitVec.ofBool b

/-- The Station with one group counted at place `k` of GSTAT, and its TP and PTY (42_group_dispatch R102 and R103). -/
def counted (k : Fin 32) (g : GroupFields) (st : Station) : Station :=
  { st with gstat := st.gstat.set k (st.gstat[k] + 1), tp := some g.tp, pty := some g.pty }

/-- The slot holds a TMC instance. -/
def Holds (s : State) (slot : Slot) (o : OdaSlot) (t : TmcInst) : Prop :=
  s.st.slot[slotIndex slot] = some o ∧ o.handler = some (.tmc t)

/-- The state with the instance of a slot replaced, and nothing else changed. -/
def withInstance (s : State) (slot : Slot) (o : OdaSlot) (t : TmcInst) : State :=
  { s with st := { s.st with slot := s.st.slot.set (slotIndex slot) (some { o with handler := some (.tmc t) }) } }

/-- The character a 2A group writes to a cell, if any (30_encoding R67). -/
def rtWritten (g : GroupFields) (c : Fin 64) : Option Byte :=
  if c.val / 4 = (g.x.extractLsb' 0 4).toNat then
    if c.val % 4 = 0 then (if g.f2 then some (g.b2.extractLsb' 8 8) else none)
    else if c.val % 4 = 1 then (if g.f2 then some (g.b2.extractLsb' 0 8) else none)
    else if c.val % 4 = 2 then (if g.f3 then some (g.b3.extractLsb' 8 8) else none)
    else (if g.f3 then some (g.b3.extractLsb' 0 8) else none)
  else none

/-- `n` steps of an offset walk lead from `a` to `b`. -/
def reachIn (m : Memory) (dir : Dir) : Nat → LocKey → LocKey → Prop
  | 0, a, b => a = b
  | n + 1, a, b => ∃ c, neighbour m dir a = some c ∧ reachIn m dir n c b

/-- `t` is `s` after the group with these fields went to the handler of its slot (43_group_types R116 and R117): a platform's
handler gets the whole group and has its own instance replaced; otherwise TMC's form runs on the slot if blocks 2 and 3 are
valid. -/
def Forwarded (s t : State) (slot : Slot) (g : GroupFields) : Prop :=
  (∀ o n state, s.st.slot[slotIndex slot] = some o → o.handler = some (.platform n state) →
    t = { s with
      st := { s.st with
        slot := s.st.slot.set (slotIndex slot)
          (some ⟨o.aid, some (.platform n (Config.handlerRecv n state slot #v[g.f0, true, g.f2, g.f3]
            #v[g.v0, slot.type ++ BitVec.ofBool slot.ver.bit ++ BitVec.ofBool g.tp ++ g.pty ++ g.x, g.b2, g.b3] g.bt))⟩) } }) ∧
    ((∀ o n state, s.st.slot[slotIndex slot] = some o → o.handler ≠ some (.platform n state)) →
      ((g.f2 && g.f3) = false → t = s) ∧
        ((g.f2 && g.f3) = true → ∃ form, decode (.tmc slot (g.group slot)) = .ok form ∧ exec form s = .next t))

/-- `t` is `s` with the ON record of a PI written as `r`, and every other record as before. -/
def OnWritten (s t : State) (r : OtherNetwork) : Prop :=
  (∃ eon, t = { s with st := { s.st with eon := eon } }) ∧
    tabFind OtherNetwork.pi r.pi t.st.eon = some r ∧
      ∀ q, q ≠ r.pi → tabFind OtherNetwork.pi q t.st.eon = tabFind OtherNetwork.pi q s.st.eon

/-- The BSYNC part of two states is the same (10_state R14). -/
def SameBsync (s t : State) : Prop :=
  t.sr = s.sr ∧ t.sync = s.sync ∧ t.hist = s.hist ∧ t.cur = s.cur ∧ t.bcnt = s.bcnt ∧ t.bt = s.bt ∧ t.gval = s.gval ∧
    t.gflg = s.gflg ∧ t.badg = s.badg ∧ t.groups = s.groups ∧ t.synclog = s.synclog

/-- A leap year of the Gregorian calendar. -/
def leapYear (y : Int) : Bool := decide (y % 4 = 0 ∧ (y % 100 ≠ 0 ∨ y % 400 = 0))

/-- The number of days of a month of the Gregorian calendar. -/
def daysInMonth (y mo : Int) : Int :=
  if mo = 2 then (if leapYear y then 29 else 28)
  else if mo = 4 ∨ mo = 6 ∨ mo = 9 ∨ mo = 11 then 30 else 31

/-- The next calendar day. -/
def nextDay (date : Int × Int × Int) : Int × Int × Int :=
  if date.2.2 < daysInMonth date.1 date.2.1 then (date.1, date.2.1, date.2.2 + 1)
  else if date.2.1 < 12 then (date.1, date.2.1 + 1, 1)
  else (date.1 + 1, 1, 1)

end Sys2Proof.Machine
end

