-- ==== Sys2Proof/Certificates/Slice0/Obligations.lean ====
section
/-! DEFINITION. The statements for the provers, from the numbered rules of the spec. A statement that rests on a choice of the
model says so and names the log entry. -/

open Sys2Proof Sys2Proof.Machine

/-! ## Reset, step, decoding -/

/-- 70_reset_and_hazards R164: the reset table, every row. AF_INIT and PAGING_INIT are OPEN constants. -/
def Obligations.ResetLeavesTheResetTable : Prop :=
  let e := State.reset
  e.sr = 0 ∧ e.sync = .unsynced ∧ (∀ k : Fin 104, e.hist[k] = []) ∧ e.cur = 0 ∧ e.bcnt = 0 ∧ e.bt = 0 ∧
    (∀ p : Fin 4, e.gval[p] = 0 ∧ e.gflg[p] = false) ∧ e.badg = 0 ∧ e.halted = false ∧ e.fault.codes = [] ∧
    e.suppress = true ∧ e.pimis = 0 ∧ e.st.pi = 0 ∧ e.st.lastSeen = 0 ∧ (∀ k : Fin 32, e.st.gstat[k] = 0) ∧
    e.st.unknown = 0 ∧ e.st.tp = none ∧ e.st.ta = none ∧ e.st.ms = none ∧ (∀ d : Fin 4, e.st.di[d] = none) ∧
    e.st.pty = none ∧ (∀ c : Fin 8, e.st.ps.cur[c] = none) ∧ e.st.ps.hist = [] ∧ e.st.ps.stamp = 0 ∧
    (∀ c : Fin 64, e.st.rt.buf[c] = none) ∧ e.st.rt.flag = none ∧ e.st.rt.arch = [] ∧ e.st.af = Config.afInit ∧
    e.st.pagingCfg = none ∧ e.st.pin = none ∧ e.st.ecc = none ∧ e.st.pagingOpc = none ∧
    (∀ n : Fin 8, e.st.slc[n] = none) ∧ e.st.clock = none ∧ e.st.eon = [] ∧ (∀ k : Fin 32, e.st.slot[k] = none) ∧
    e.paging = Config.pagingInit

/-- A command at the port (log 1) that decodes to an instruction is executed by one step, the port moved past it. -/
def Obligations.StepRunsTheDecodedCommand : Prop :=
  ∀ (s : State) (f : Frame) (rest : List PortItem) (i : Instr),
    s.port = .command f :: rest → decode (.command f) = .ok i → i.wf → step s = exec i { s with port := rest }

/-- 10_state R45, 20_memory R46 and R59, 70_reset_and_hazards R165: no step changes LT or a parameter; the host's port items
other than commands set TUNED_FREQ, or are refused as a change of LT or of a parameter. The port is the model's own (log 1). -/
def Obligations.OnlyTunedFreqMayChange : Prop :=
  (∀ s t : State, step s = .next t → t.lt = s.lt ∧ t.params = s.params) ∧
    ∀ (s : State) (rest : List PortItem) (khz : Option Nat) (lt : Memory) (p : Params),
      (s.port = .setFreq khz :: rest → step s = .next { s with tunedFreq := khz, port := rest }) ∧
        (s.port = .loadTable lt :: rest → step s = .refused .tableChange) ∧
          (s.port = .setParams p :: rest → step s = .refused .parameterChange)

/-- 30_encoding R60, R66, R69 and R73: words written out from the spec's tables and test vectors. -/
def Obligations.WrittenWordsDecode : Prop :=
  decode (.command (Frame.ofWord 0x12)) = .ok (.bit true) ∧
    decode (.command { Frame.ofWord 0xB4 with values := #v[0xF202, 0x0408, 0, 0x2043], bt := 104 }) =
      .ok (.groupIn #v[true, true, false, true] #v[0xF202, 0x0408, 0, 0x2043] 104) ∧
    decode (.command { Frame.ofWord 0x16 with keyA := ⟨1, 1, 302⟩, extent := 1 }) =
      .ok (.locOffset .neg ⟨1, 1, 302⟩ 1) ∧
    decode (.group (Group.of #v[true, true, true, true] #v[0xF202, 0xE81F, 0xF202, 0xC201] 7)) =
      .ok (.group14B ⟨false, 0, 0x1F, true, true, true, 0xF202, 0xF202, 0xC201, 7⟩) ∧
    decode (.tmc ⟨8, .A⟩ (Group.of #v[true, true, true, true] #v[0xF202, 0x8005, 0x51A4, 0xC363] 312)) =
      .ok (.tmcSubsequent ⟨8, .A⟩ 5 true 1 0x1A4 0xC363 312) ∧
    decode (.tmc ⟨8, .A⟩ (Group.of #v[true, true, true, true] #v[0xF202, 0x8008, 0x0ABC, 0x1234] 208)) =
      .ok (.tmcSingle ⟨8, .A⟩ 0 false false 1 700 0x1234 208) ∧
    decode (.record ⟨8, .A⟩ [false, true, true, false, false, false, true, false, true, false, true, false]) =
      .ok (.alertcL6 ⟨8, .A⟩ 0x2A) ∧
    decode (.eon 13 0xC201 0x4005) = .ok (.eon14aV13 0xC201 0x4005) ∧
    decode (.tuning ⟨8, .A⟩ 4 0x4142 0x4344) = .ok (.tmcTuningV4 ⟨8, .A⟩ 0x4142 0x4344)

/-- Decode and encode agree on every well-formed instruction of all six tables. -/
def Obligations.DecodeOfEncodeIsTheInstruction : Prop :=
  ∀ i : Instr, i.wf → decode (encode i) = .ok i

/-! ## Whole-machine rules -/

/-- The invariant of `Safety.lean` holds at reset. -/
def Obligations.ResetMeetsTheInvariant : Prop := Inv State.reset

/-- The invariant of `Safety.lean` is kept by every step from every state that meets it. -/
def Obligations.EveryStepKeepsTheInvariant : Prop :=
  ∀ s t : State, Inv s → step s = .next t → Inv t

/-- 10_state R42: a step only appends to the four output streams; RESET retracts nothing. -/
def Obligations.OutputStreamsOnlyGrow : Prop :=
  ∀ s t : State, step s = .next t →
    s.events <+: t.events ∧ s.groups <+: t.groups ∧ s.synclog <+: t.synclog ∧ s.tmcout <+: t.tmcout

/-- 10_state R15 to R24 and 41_synchronizer R94: only BIT and RESET write BSYNC's state and streams; BIT advances BT by exactly
1 and RESET clears it. -/
def Obligations.OnlyBitAndResetWriteBsync : Prop :=
  ∀ (i : Instr) (s t : State), exec i s = .next t →
    ((∀ b, i ≠ .bit b) → i ≠ .reset → SameBsync s t) ∧ (∀ b, i = .bit b → t.bt = s.bt + 1) ∧ (i = .reset → t.bt = 0)

/-- 10_state R25 and R26, 41_synchronizer R93 and 60_exceptions R156: EOS sets HALTED and RESET clears it, and nothing else
changes it; no instruction but RESET removes a reason from FAULT, and one that adds a reason has no other effect. -/
def Obligations.HaltedAndFaultChangeOnlyAsRuled : Prop :=
  ∀ (i : Instr) (s t : State), exec i s = .next t →
    (i = .eos → t.halted = true) ∧ (i = .reset → t.halted = false ∧ t.fault = ⟨false, false⟩) ∧
      (i ≠ .reset →
        (i ≠ .eos → t.halted = s.halted) ∧
        (s.fault.badOp = true → t.fault.badOp = true) ∧ (s.fault.ltCycle = true → t.fault.ltCycle = true) ∧
        (t.fault ≠ s.fault → ∃ r, t = { s with fault := s.fault.add r, reply := .fault r }))

/-! ## Commands -/

/-- 60_exceptions R156: an illegal op code adds BAD_OP to FAULT, returns the fault, and has no other effect, halted or not. -/
def Obligations.IllegalOpCodesRaiseBadOp : Prop :=
  ∀ s : State,
    let t : State := { s with fault := { s.fault with badOp := true }, reply := .fault .badOp }
    exec .reserved0 s = .next t ∧ exec .reserved9 s = .next t ∧ exec .reservedA s = .next t ∧
      exec .reservedB s = .next t ∧ exec .reservedC s = .next t ∧ exec .reservedD s = .next t ∧
      exec .reservedE s = .next t ∧ exec .reservedF s = .next t

/-- 70_reset_and_hazards R163: RESET, in every state: the reset values, the streams, LT and the parameters kept. That
TUNED_FREQ and the port are kept is the model's reading (log 11, log 1). -/
def Obligations.ResetCommandResult : Prop :=
  ∀ s : State, exec .reset s = .next
    { State.reset with
      events := s.events, groups := s.groups, synclog := s.synclog, tmcout := s.tmcout
      tunedFreq := s.tunedFreq, params := s.params, lt := s.lt, port := s.port, reply := .done }

/-- 41_synchronizer R93: EOS emits LOST for a tracked station, then EOS, and halts; a second EOS is stuck. -/
def Obligations.EosResult : Prop :=
  ∀ s : State,
    (s.halted = true → exec .eos s = .fault .stuckHalted) ∧
    (s.halted = false → exec .eos s = .next
      { s with
        events := s.events ++ (if s.st.pi = 0 then [] else [⟨s.bt, .lost s.st.pi⟩]) ++ [⟨s.bt, .eos⟩]
        halted := true
        reply := .done })

/-- 20_memory R58: SNAPSHOT returns the image of the state and changes nothing, halted or not. That the image is the engine
alone, without TUNED_FREQ, the parameters, LT and the port, is the model's reading (log 27). -/
def Obligations.SnapshotResult : Prop :=
  ∀ s : State, exec .snapshot s = .next { s with reply := .image s.toEngine }

/-- 60_exceptions R157: while HALTED = 1 six commands are stuck, RESET and SNAPSHOT are accepted, and an illegal op code still
gives BAD_OP. -/
def Obligations.HaltedCommandsAreStuck : Prop :=
  ∀ (s : State) (b neg : Bool) (flags : Vector Bool 4) (values : Vector Word 4) (bt : BitTime) (dir : Dir)
    (k k' : LocKey) (sec : Option LocKey) (extent : BitVec 32), s.halted = true →
    exec (.bit b) s = .fault .stuckHalted ∧ exec .eos s = .fault .stuckHalted ∧
      exec (.groupIn flags values bt) s = .fault .stuckHalted ∧ exec (.locOffset dir k extent) s = .fault .stuckHalted ∧
      exec (.locEnclosing k sec) s = .fault .stuckHalted ∧ exec (.locCompare neg k k') s = .fault .stuckHalted ∧
      Runs (exec .reset s) ∧ Runs (exec .snapshot s) ∧
      ∀ i ∈ [Instr.reserved0, .reserved9, .reservedA, .reservedB, .reservedC, .reservedD, .reservedE, .reservedF],
        exec i s = .next { s with fault := { s.fault with badOp := true }, reply := .fault .badOp }

/-- 42_group_dispatch R101: while suppressed, a group without a valid non-zero PI changes nothing. -/
def Obligations.SuppressedGroupChangesNothing : Prop :=
  ∀ (s : State) (flags : Vector Bool 4) (values : Vector Word 4) (bt : BitTime),
    s.halted = false → s.suppress = true → (flags[0] = false ∨ values[0] = 0) →
      exec (.groupIn flags values bt) s = .next { s with reply := .done }

/-- 42_group_dispatch R100 to R102 and R104: PI_STEP in its four cases, on any group with a valid non-zero PI: a first PI, the
tracked PI, a tolerated mismatch, and a change of station. After a tolerated mismatch the group is skipped, whatever its other
blocks; otherwise it runs the row of its block 1, or counts as unknown without one. -/
def Obligations.PiStepResult : Prop :=
  ∀ (s : State) (flags : Vector Bool 4) (values : Vector Word 4) (bt : BitTime),
    s.halted = false → flags[0] = true → values[0] ≠ 0 →
    let pi := values[0]
    let result := exec (.groupIn flags values bt) s
    let tolerated : Prop := s.st.pi ≠ 0 ∧ pi ≠ s.st.pi ∧ s.pimis + 1 ≤ s.params.piTolerance
    let u : State :=
      if s.st.pi = 0 then
        { s with
          st := { s.st with pi := pi, lastSeen := bt }
          pimis := 0, suppress := false, events := s.events ++ [⟨bt, .tuned pi⟩] }
      else if pi = s.st.pi then { s with st := { s.st with lastSeen := bt }, pimis := 0, suppress := false }
      else
        { s with
          st := { Station.fresh with pi := pi, lastSeen := bt }
          pimis := 0, suppress := false, events := s.events ++ [⟨bt, .lost s.st.pi⟩, ⟨bt, .tuned pi⟩] }
    (tolerated → result = .next { s with pimis := s.pimis + 1, reply := .done }) ∧
      (¬ tolerated → flags[1] = false →
        result = .next { u with st := { u.st with unknown := u.st.unknown + 1 }, reply := .done }) ∧
      (¬ tolerated → flags[1] = true → ∃ i t, decode (.group (Group.of flags values bt)) = .ok i ∧ exec i u = .next t ∧
        result = .next { t with reply := .done })

/-- 42_group_dispatch R99, R101, R102 and R104: once PI_STEP has left the gate open, a group whose block 1 is valid runs its
group-type row, and any other is counted as unknown; where the gate is shut the group does nothing more. A group without a
valid non-zero PI takes no PI_STEP. -/
def Obligations.OpenGateRunsTheGroupRow : Prop :=
  ∀ (s : State) (flags : Vector Bool 4) (values : Vector Word 4) (bt : BitTime),
    let g := Group.of flags values bt
    s.halted = false →
      (gateShut g (piStage g s) = false →
        ∃ t, exec (.groupIn flags values bt) s = .next { t with reply := .done } ∧
          (∀ i, decode (.group g) = .ok i → exec i (piStage g s) = .next t) ∧
            (flags[1] = false →
              t = { piStage g s with st := { (piStage g s).st with unknown := (piStage g s).st.unknown + 1 } })) ∧
      (gateShut g (piStage g s) = true →
        exec (.groupIn flags values bt) s = .next { piStage g s with reply := .done }) ∧
      ((flags[0] = false ∨ values[0] = 0) → piStage g s = s)

/-! ## The bit synchronizer -/

/-- 41_synchronizer R87 and R88: unsynchronised, a bit before the guard or without a match only shifts and counts. -/
def Obligations.BitWithoutMatchOnlyShifts : Prop :=
  ∀ (s : State) (b : Bool), s.halted = false → s.sync = .unsynced →
    ((s.bt + 1).toNat < 26 ∨ pos (syndrome (srAfter b s)) = none) →
      exec (.bit b) s = .next { s with sr := srAfter b s, bt := s.bt + 1, reply := .done }

/-- 41_synchronizer R88: a match is recorded in its bucket, older entries purged, while the count is within the threshold.
The age is taken modulo 2^64 (log 16). -/
def Obligations.BitRecordsItsMatch : Prop :=
  ∀ (s : State) (b : Bool) (p : Fin 4) (key : Fin 104) (bucket : List BitTime),
    s.halted = false → s.sync = .unsynced → 26 ≤ (s.bt + 1).toNat → pos (syndrome (srAfter b s)) = some p →
      (key.val : Int) = (((s.bt + 1).toNat : Int) - 26 * p.val) % 104 →
      bucket = s.hist[key].filter (fun t => decide ((s.bt + 1 - t).toNat ≤ 520)) ++ [s.bt + 1] → bucket.length ≤ 2 →
        exec (.bit b) s = .next
          { s with sr := srAfter b s, bt := s.bt + 1, hist := s.hist.set key bucket, reply := .done }

/-- 41_synchronizer R88 and R89: the match that exceeds the threshold declares synchronisation. The age is taken modulo 2^64
(log 16). -/
def Obligations.BitDeclaresSynchronisation : Prop :=
  ∀ (s : State) (b : Bool) (p : Fin 4) (key : Fin 104) (bucket : List BitTime),
    s.halted = false → s.sync = .unsynced → 26 ≤ (s.bt + 1).toNat → pos (syndrome (srAfter b s)) = some p →
      (key.val : Int) = (((s.bt + 1).toNat : Int) - 26 * p.val) % 104 →
      bucket = s.hist[key].filter (fun t => decide ((s.bt + 1 - t).toNat ≤ 520)) ++ [s.bt + 1] → 2 < bucket.length →
        exec (.bit b) s = .next
          { s with
            sr := srAfter b s, bt := s.bt + 1, sync := .synced, cur := p + 1, bcnt := 0, badg := 0
            gval := if p = 3 then #v[0, 0, 0, 0] else (#v[0, 0, 0, 0]).set p ((srAfter b s).extractLsb' 10 16)
            gflg := if p = 3 then #v[false, false, false, false] else (#v[false, false, false, false]).set p true
            hist := Vector.replicate 104 []
            synclog := s.synclog ++ [.acquired (s.bt + 1) p], reply := .done }

/-- 41_synchronizer R90: synchronised, a bit that does not end a block shifts and counts; the 26th bit of block A, B or C stores
the block, valid exactly when its syndrome matches its own position, and advances the cursor. -/
def Obligations.BitFramesABlock : Prop :=
  ∀ (s : State) (b : Bool), s.halted = false → s.sync = .synced →
    (s.bcnt < 25 →
      exec (.bit b) s = .next { s with sr := srAfter b s, bt := s.bt + 1, bcnt := s.bcnt + 1, reply := .done }) ∧
    (s.bcnt = 25 → s.cur ≠ 3 →
      exec (.bit b) s = .next
        { s with
          sr := srAfter b s, bt := s.bt + 1, bcnt := 0, cur := s.cur + 1
          gval := s.gval.set s.cur ((srAfter b s).extractLsb' 10 16)
          gflg := s.gflg.set s.cur (matchAt (syndrome (srAfter b s)) s.cur), reply := .done })

/-- 41_synchronizer R90, R91 and R94: the 26th bit of block D emits the group, which is processed as GROUP_IN would, and
updates BADG while synchronisation is kept. -/
def Obligations.BitCompletesAGroup : Prop :=
  ∀ (s : State) (b : Bool) (u : State), s.halted = false → s.sync = .synced → s.bcnt = 25 → s.cur = 3 →
    let flg := s.gflg.set 3 (matchAt (syndrome (srAfter b s)) 3)
    let val := s.gval.set 3 ((srAfter b s).extractLsb' 10 16)
    exec (.groupIn flg val (s.bt + 1))
      { s with
        sr := srAfter b s, bt := s.bt + 1, bcnt := 0, gval := val, gflg := flg
        groups := s.groups ++ [⟨popcount flg, flg, val, s.bt + 1⟩] } = .next u →
    (popcount flg ≠ 0 ∨ s.badg + 1 < 10) →
      exec (.bit b) s = .next
        { u with
          badg := if popcount flg = 0 then s.badg + 1 else 0
          gflg := #v[false, false, false, false], cur := 0 }

/-- 41_synchronizer R91 and R92, 42_group_dispatch R105: the tenth consecutive all-invalid group is processed, and then
synchronisation is lost and GDEC is suppressed. -/
def Obligations.TenthInvalidGroupLosesSynchronisation : Prop :=
  ∀ (s : State) (b : Bool) (u : State), s.halted = false → s.sync = .synced → s.bcnt = 25 → s.cur = 3 →
    let flg := s.gflg.set 3 (matchAt (syndrome (srAfter b s)) 3)
    let val := s.gval.set 3 ((srAfter b s).extractLsb' 10 16)
    exec (.groupIn flg val (s.bt + 1))
      { s with
        sr := srAfter b s, bt := s.bt + 1, bcnt := 0, gval := val, gflg := flg
        groups := s.groups ++ [⟨popcount flg, flg, val, s.bt + 1⟩] } = .next u →
    popcount flg = 0 → s.badg = 9 →
      exec (.bit b) s = .next
        { u with
          sync := .unsynced, badg := 0, bcnt := 0, hist := Vector.replicate 104 []
          synclog := s.synclog ++ [.lostSync (s.bt + 1)], suppress := true, pimis := 0
          gflg := #v[false, false, false, false], cur := 0 }

/-- 41_synchronizer R96: from any unsynchronised state, at most 25 bits and then three valid codewords in order reach
SYNCED within those bits. BT does not wrap meanwhile. -/
def Obligations.CleanStreamAcquiresWithin103Bits : Prop :=
  ∀ (s : State) (before : List Bool) (m₁ m₂ m₃ : Word) (o₁ o₂ o₃ : Offset),
    s.halted = false → s.sync = .unsynced → s.bt.toNat + 103 < 2 ^ 64 → before.length ≤ 25 →
      o₂.position = o₁.position + 1 → o₃.position = o₁.position + 2 →
        ∃ n, n ≤ before.length + 78 ∧
          (feedBits ((before ++ bitsMsb 26 (codeword m₁ o₁).toNat ++ bitsMsb 26 (codeword m₂ o₂).toNat ++
            bitsMsb 26 (codeword m₃ o₃).toNat).take n) s).sync = .synced

/-! ## The syndrome ROM -/

/-- 40_syndrome_rom R78, R81 and R82: the recurrence reproduces ROM_H, a single 1 at w[25-i] has the syndrome row i, SYNDROME is
GF(2)-linear, and it is 0 exactly on the offset-free valid codewords. -/
def Obligations.SyndromeIsLinear : Prop :=
  (romHRow 0 = 0x200 ∧ ∀ i, i < 25 →
    (romHRow (i + 1)).setWidth 11 =
      if (romHRow i).getLsbD 0 then ((romHRow i).setWidth 11 ^^^ 0x5B9) >>> 1 else (romHRow i).setWidth 11 >>> 1) ∧
    (∀ i, i < 26 → syndrome ((1 : Codeword) <<< (25 - i)) = romHRow i) ∧
    (∀ a b : Codeword, syndrome (a ^^^ b) = syndrome a ^^^ syndrome b) ∧
    ∀ w : Codeword, syndrome w = 0 ↔ ∃ m : Word, w = m ++ checkBits m

/-- 40_syndrome_rom R85: a valid codeword has the syndrome of its offset word, the ROM_SYN value of its position. -/
def Obligations.ValidCodewordMatchesItsPosition : Prop :=
  ∀ (m : Word) (o : Offset),
    syndrome (codeword m o) = syndrome (o.word.setWidth 26) ∧
      syndrome (codeword m o) =
        (match o with
          | .a => 0x3D8
          | .b => 0x3D4
          | .c => 0x25C
          | .c' => 0x3CC
          | .d => 0x258) ∧
      pos (syndrome (codeword m o)) = some o.position

/-- 40_syndrome_rom R86: the rows of ROM_H are distinct and non-zero; one flipped bit changes the syndrome by its row, never
matches the codeword's own position, and matches another one in exactly the two cases of w[18]. -/
def Obligations.SingleBitErrorIsRejectedAtItsPosition : Prop :=
  (∀ i j, i < 26 → j < 26 → romHRow i = romHRow j → i = j) ∧ (∀ i, i < 26 → romHRow i ≠ 0) ∧
    ∀ (m : Word) (o : Offset) (j : Fin 26),
      let s := syndrome (codeword m o ^^^ ((1 : Codeword) <<< j.val))
      s = syndrome (codeword m o) ^^^ romHRow (25 - j.val) ∧ s ≠ syndrome (codeword m o) ∧
        matchAt s o.position = false ∧
        pos s = if o = .c ∧ j = 18 then some 3 else if o = .d ∧ j = 18 then some 2 else none

/-- 40_syndrome_rom R84: ROM_SYN holds five pairwise different non-zero values, so at most one position matches a syndrome, and
POS is that position. -/
def Obligations.AtMostOnePositionMatches : Prop :=
  (∀ v : Syndrome, v ∈ romSyn ↔ v ∈ [0x3D8, 0x3D4, 0x25C, 0x3CC, 0x258]) ∧
    ([0x3D8, 0x3D4, 0x25C, 0x3CC, 0x258] : List Syndrome).Nodup ∧ (0 : Syndrome) ∉ romSyn ∧
    ∀ s : Syndrome,
      popcount #v[matchAt s 0, matchAt s 1, matchAt s 2, matchAt s 3] ≤ 1 ∧
        ∀ p : Fin 4, pos s = some p ↔ matchAt s p = true

/-! ## Group types -/

/-- 43_group_types R125: 1B to 13B and 15A only count the group and set TP and PTY. -/
def Obligations.TypesWithoutFieldAction : Prop :=
  ∀ (g : GroupFields) (s : State),
    exec (.group1B g) s = .next { s with st := counted 3 g s.st } ∧
    exec (.group2B g) s = .next { s with st := counted 5 g s.st } ∧
    exec (.group3B g) s = .next { s with st := counted 7 g s.st } ∧
    exec (.group4B g) s = .next { s with st := counted 9 g s.st } ∧
    exec (.group5B g) s = .next { s with st := counted 11 g s.st } ∧
    exec (.group6B g) s = .next { s with st := counted 13 g s.st } ∧
    exec (.group7B g) s = .next { s with st := counted 15 g s.st } ∧
    exec (.group8B g) s = .next { s with st := counted 17 g s.st } ∧
    exec (.group9B g) s = .next { s with st := counted 19 g s.st } ∧
    exec (.group10B g) s = .next { s with st := counted 21 g s.st } ∧
    exec (.group11B g) s = .next { s with st := counted 23 g s.st } ∧
    exec (.group12B g) s = .next { s with st := counted 25 g s.st } ∧
    exec (.group13B g) s = .next { s with st := counted 27 g s.st } ∧
    exec (.group15A g) s = .next { s with st := counted 30 g s.st }

/-- 43_group_types R110: 0A and 0B set TA, MS and DI[3 - s], write the PS segment of a valid block 3, and 0A alone gives a
valid block 2 to AF_UPDATE. -/
def Obligations.Type0Result : Prop :=
  ∀ (g : GroupFields) (s : State) (d : Fin 4), d.val + (g.x.extractLsb' 0 2).toNat = 3 →
    let common (k : Fin 32) : Station :=
      { counted k g s.st with
        ta := some (g.x.getLsbD 4), ms := some (g.x.getLsbD 3), di := s.st.di.set d (some (g.x.getLsbD 2))
        ps := if g.f3 then
            s.st.ps.write (g.x.extractLsb' 0 2) (g.b3.extractLsb' 8 8) (g.b3.extractLsb' 0 8)
          else s.st.ps }
    exec (.group0A g) s = .next
      { s with
        st := { common 0 with
          af := if g.f2 then
              Config.afUpdate s.st.af (g.b2.extractLsb' 8 8) (g.b2.extractLsb' 0 8) s.tunedFreq
            else s.st.af } } ∧
      exec (.group0B g) s = .next { s with st := common 1 }

/-- 43_group_types R108: a PS write stores its two cells; without 8 non-null cells nothing else changes, and a complete value
is voted for: its entry's count saturates and its recency is the new stamp, and a new value enters with count 1, after the
weakest entry left a full history. Which of several entries with equal count and recency leaves is a free value (log 25). -/
def Obligations.PsWriteResult : Prop :=
  ∀ (u : PsUnit) (s : BitVec 2) (c0 c1 : Byte),
    let v := u.write s c0 c1
    (∀ c : Fin 8, v.cur[c] =
      if c.val = 2 * s.toNat then some c0 else if c.val = 2 * s.toNat + 1 then some c1 else u.cur[c]) ∧
    ((∃ c : Fin 8, v.cur[c] = none) → v.hist = u.hist ∧ v.stamp = u.stamp) ∧
    (∀ name : Vector Byte 8, (∀ c : Fin 8, v.cur[c] = some name[c]) →
      v.stamp = u.stamp + 1 ∧
      ((∃ e ∈ u.hist, e.value = name) →
        v.hist = u.hist.map fun e =>
          if e.value = name then ⟨name, if e.count.toNat + 1 < 2 ^ 32 then e.count + 1 else e.count, u.stamp + 1⟩ else e) ∧
      ((∀ e ∈ u.hist, e.value ≠ name) → u.hist.length ≠ 8 → v.hist = u.hist ++ [⟨name, 1, u.stamp + 1⟩]) ∧
      ((∀ e ∈ u.hist, e.value ≠ name) → u.hist.length = 8 →
        ∃ pre e post, u.hist = pre ++ e :: post ∧ v.hist = pre ++ post ++ [⟨name, 1, u.stamp + 1⟩] ∧
          ∀ x ∈ u.hist, e.count.toNat < x.count.toNat ∨
            (e.count = x.count ∧ e.recency.toNat ≤ x.recency.toNat)))

/-- 43_group_types R109: PS_VALUE shows the cells as they stand while the history is empty, and else the value of an entry that
no entry is above in count and then recency; and a unit that receives the segments of one name, in any order and any number of
times, shows the name from the moment all four have been seen. Which of several entries with equal count and recency is shown
is a free value (log 25). -/
def Obligations.PsNameConverges : Prop :=
  (∀ u : PsUnit,
    (u.hist = [] → u.shown = u.cur) ∧
    (u.hist ≠ [] → ∃ e ∈ u.hist, u.shown = e.value.map some ∧
      ∀ x ∈ u.hist, x.count.toNat < e.count.toNat ∨ (x.count = e.count ∧ x.recency.toNat ≤ e.recency.toNat))) ∧
  ∀ (name : Vector Byte 8) (segments : List (BitVec 2)), (∀ k : BitVec 2, k ∈ segments) →
    (segments.foldl
      (fun u k => u.write k (name[2 * k.toNat]'(by omega)) (name[2 * k.toNat + 1]'(by omega))) PsUnit.fresh).shown =
        name.map some

/-- 43_group_types R112: 1A writes PAGING_CFG, and with it PAGING_ACTIVE; PIN from a valid block 3; and SLC, in variant 0 also
PAGING_OPC and ECC, from a valid block 2. -/
def Obligations.Type1AResult : Prop :=
  ∀ (g : GroupFields) (s : State) (n : Fin 8), n.val = (g.b2.extractLsb' 12 3).toNat →
    let st : Station :=
      { counted 2 g s.st with
        pagingCfg := some g.x
        pin := if g.f3 then some g.b3 else s.st.pin
        slc := if g.f2 then s.st.slc.set n (some (g.b2.extractLsb' 0 12)) else s.st.slc
        pagingOpc := if g.f2 ∧ n = 0 then some (g.b2.extractLsb' 8 4) else s.st.pagingOpc
        ecc := if g.f2 ∧ n = 0 then some (g.b2.extractLsb' 0 8) else s.st.ecc }
    exec (.group1A g) s = .next { s with st := st } ∧ (st.pagingActive = true ↔ g.x.extractLsb' 2 3 ≠ 0)

/-- 43_group_types R113 and R114: 2A writes its characters; a toggled flag or a cell that would change starts a new message
and archives the old one unless it is empty, the oldest of more than 8 dropped; a group with neither block does nothing
beyond the common fields. -/
def Obligations.Type2AResult : Prop :=
  ∀ (g : GroupFields) (s : State),
    ∃ rt : RtUnit, exec (.group2A g) s = .next { s with st := { counted 4 g s.st with rt := rt } } ∧
      ((g.f2 = false ∧ g.f3 = false) → rt = s.st.rt) ∧
      (∀ boundary : Bool, (g.f2 = true ∨ g.f3 = true) →
        (boundary = true ↔ s.st.rt.flag = some (!g.x.getLsbD 4) ∨
          ∃ c ch, rtWritten g c = some ch ∧ s.st.rt.buf[c] ≠ none ∧ s.st.rt.buf[c] ≠ some ch) →
        rt.flag = some (g.x.getLsbD 4) ∧
        (∀ c : Fin 64, rt.buf[c] =
          match rtWritten g c with
          | some ch => some ch
          | none => if boundary then none else s.st.rt.buf[c]) ∧
        rt.arch =
          if boundary = true ∧ ∃ c : Fin 64, s.st.rt.buf[c] ≠ none then
            (if s.st.rt.arch.length < 8 then s.st.rt.arch ++ [s.st.rt.buf] else (s.st.rt.arch ++ [s.st.rt.buf]).tail)
          else s.st.rt.arch)

/-- 43_group_types R115 and R116: 3A stores the announced AID in its slot, a repeated AID keeping the instance and another
AID replacing it by the new instance that HANDLER_OF selects, or none; and with a valid block 2 the announcing group goes to
the instance, where TMC does nothing with it. The platform's kinds and what their instances do are OPEN (log 12). -/
def Obligations.Type3AResult : Prop :=
  ∀ (g : GroupFields) (s : State) (k : Fin 32) (o : OdaSlot),
    k.val = 2 * (g.x.extractLsb' 1 4).toNat + (g.x.getLsbD 0).toNat →
      (g.f3 = false → exec (.group3A g) s = .next { s with st := counted 6 g s.st }) ∧
      (g.f3 = true → o.aid = g.b3 →
        (s.st.slot[k] = some o ∨
          ((∀ o', s.st.slot[k] = some o' → o'.aid ≠ g.b3) ∧
            o.handler =
              if g.b3 = 0xCD46 ∨ g.b3 = 0xCD47 then some (.tmc TmcInst.fresh)
              else
                match s.params.handlers.find? fun e => e.1 == g.b3 with
                | none => none
                | some (_, .tmc) => some (.tmc TmcInst.fresh)
                | some (_, .platform n) => some (.platform n (Config.handlerInit n)))) →
        exec (.group3A g) s = .next
          { s with
            st := { counted 6 g s.st with
              slot := s.st.slot.set k (some
                ⟨g.b3,
                  match o.handler with
                  | some (.platform n state) =>
                    some (.platform n
                      (if g.f2 then
                        Config.handlerRecv n state ⟨3, .A⟩ #v[g.f0, true, true, true]
                          #v[g.v0, (3 : BitVec 4) ++ (0 : BitVec 1) ++ BitVec.ofBool g.tp ++ g.pty ++ g.x, g.b2, g.b3] g.bt
                      else state))
                  | other => other⟩) } })

/-- 43_group_types R119: 4A stores the clock record and emits its event when blocks 2 and 3 are valid and the time is in
range; otherwise it does nothing beyond the common fields. -/
def Obligations.Type4AResult : Prop :=
  ∀ (g : GroupFields) (s : State),
    let mjd : Nat := (g.x.extractLsb' 0 2).toNat * 2 ^ 15 + (g.b2.extractLsb' 1 15).toNat
    let hour : Nat := (g.b2.getLsbD 0).toNat * 16 + (g.b3.extractLsb' 12 4).toNat
    let minute : Nat := (g.b3.extractLsb' 6 6).toNat
    let off : Int := if g.b3.getLsbD 5 then -((g.b3.extractLsb' 0 5).toNat : Int) else ((g.b3.extractLsb' 0 5).toNat : Int)
    let tot : Int := mjd * 1440 + hour * 60 + minute + 30 * off
    if g.f2 = true ∧ g.f3 = true ∧ hour ≤ 23 ∧ minute ≤ 59 then
      ∃ c : Clock, c.mjd.toNat = mjd ∧ c.hour.toNat = hour ∧ c.minute.toNat = minute ∧ c.off = off ∧
        (c.year, c.month, c.day) = civil mjd ∧ (c.lyear, c.lmonth, c.lday) = civil (tot / 1440) ∧
        0 ≤ c.lhour ∧ c.lhour < 24 ∧ 0 ≤ c.lminute ∧ c.lminute < 60 ∧
        tot = (tot / 1440) * 1440 + c.lhour * 60 + c.lminute ∧
        exec (.group4A g) s = .next
          { s with st := { counted 8 g s.st with clock := some c }, events := s.events ++ [⟨g.bt, .clock c⟩] }
    else exec (.group4A g) s = .next { s with st := counted 8 g s.st }

/-- 43_group_types R120: CIVIL gives a date of the Gregorian calendar for every day number, the next number gives the next
day, and MJD 40587 is 1970-01-01. -/
def Obligations.CivilIsTheGregorianCalendar : Prop :=
  civil 40587 = (1970, 1, 1) ∧ ∀ n : Int,
    1 ≤ (civil n).2.1 ∧ (civil n).2.1 ≤ 12 ∧ 1 ≤ (civil n).2.2 ∧
      (civil n).2.2 ≤ daysInMonth (civil n).1 (civil n).2.1 ∧ civil (n + 1) = nextDay (civil n)

/-- 43_group_types R116 and R117, 44_tmc R127 and R128: a 5A, 6A or 8A to 13A group goes to the handler of its own slot: TMC
runs the group's form if blocks 2 and 3 are valid; without a handler the group does nothing beyond the common fields. What a
platform's handler does with the group is OPEN (log 12). -/
def Obligations.OdaGroupsRunTheirTmcForm : Prop :=
  ∀ (g : GroupFields) (s : State),
    let result (k : Fin 32) (slot : Slot) (i : Instr) : Prop :=
      ∃ t, exec i s = .next t ∧ Forwarded { s with st := counted k g s.st } t slot g
    result 10 ⟨5, .A⟩ (.group5A g) ∧ result 12 ⟨6, .A⟩ (.group6A g) ∧ result 16 ⟨8, .A⟩ (.group8A g) ∧
      result 18 ⟨9, .A⟩ (.group9A g) ∧ result 20 ⟨10, .A⟩ (.group10A g) ∧ result 22 ⟨11, .A⟩ (.group11A g) ∧
      result 24 ⟨12, .A⟩ (.group12A g) ∧ result 26 ⟨13, .A⟩ (.group13A g)

/-- 43_group_types R117 and R118, 10_state R35: 7A calls PAGING_DECODE while PAGING_ACTIVE, and is forwarded otherwise. -/
def Obligations.Type7AResult : Prop :=
  ∀ (g : GroupFields) (s : State),
    let s' : State := { s with st := counted 14 g s.st }
    if ∃ c, s.st.pagingCfg = some c ∧ c.extractLsb' 2 3 ≠ 0 then
      exec (.group7A g) s = .next
        { s' with
          paging := Config.pagingDecode s.paging (g.x.extractLsb' 0 3) #v[g.f0, true, g.f2, g.f3]
            #v[g.v0, (7 : BitVec 4) ++ (0 : BitVec 1) ++ BitVec.ofBool g.tp ++ g.pty ++ g.x, g.b2, g.b3] g.bt }
    else
      ∃ t, exec (.group7A g) s = .next t ∧ Forwarded s' t ⟨7, .A⟩ g

/-- 43_group_types R121: 14A finds or creates the record of a valid block 3, writes TP(ON), and with a valid block 2 runs its
variant; a full table refuses a new PI. -/
def Obligations.Type14AResult : Prop :=
  ∀ (g : GroupFields) (s : State),
    let s' : State := { s with st := counted 28 g s.st }
    (g.f3 = false → exec (.group14A g) s = .next s') ∧
    (g.f3 = true → tabFind OtherNetwork.pi g.b3 s.st.eon = none → 32 ≤ s.st.eon.length →
      exec (.group14A g) s = .next s') ∧
    (∀ r : OtherNetwork, g.f3 = true →
      (tabFind OtherNetwork.pi g.b3 s.st.eon = some r ∨
        (tabFind OtherNetwork.pi g.b3 s.st.eon = none ∧ s.st.eon.length < 32 ∧ r = OtherNetwork.fresh g.b3)) →
      ∃ u t, OnWritten s' u { r with tp := some (g.x.getLsbD 4) } ∧ exec (.group14A g) s = .next t ∧
        (g.f2 = false → t = u) ∧
        (g.f2 = true → ∃ v, decode (.eon (g.x.extractLsb' 0 4) g.b3 g.b2) = .ok v ∧ exec v u = .next t))

/-- 43_group_types R122: each variant of 14A writes its field of the ON record and no other; 10, 11 and 15 write none. The
record is found, or created as 14A does, and a full table refuses a new PI, so that the row changes nothing (log 19). -/
def Obligations.EonVariantResults : Prop :=
  (∀ (s : State) (pi b2 : Word) (r : OtherNetwork),
    (tabFind OtherNetwork.pi pi s.st.eon = some r ∨
      (tabFind OtherNetwork.pi pi s.st.eon = none ∧ s.st.eon.length < 32 ∧ r = OtherNetwork.fresh pi)) →
    let hi : Byte := b2.extractLsb' 8 8
    let lo : Byte := b2.extractLsb' 0 8
    let result (i : Instr) (r' : OtherNetwork) : Prop := ∃ t, exec i s = .next t ∧ OnWritten s t r'
    let mapped (n : BitVec 4) : OtherNetwork :=
      { r with mapped := (r.mapped ++ [(⟨n, hi, lo⟩ : FreqTriple)]).drop (r.mapped.length + 1 - 16) }
    result (.eon14aV0 pi b2) { r with ps := r.ps.write 0 hi lo } ∧
    result (.eon14aV1 pi b2) { r with ps := r.ps.write 1 hi lo } ∧
    result (.eon14aV2 pi b2) { r with ps := r.ps.write 2 hi lo } ∧
    result (.eon14aV3 pi b2) { r with ps := r.ps.write 3 hi lo } ∧
    result (.eon14aV4 pi b2) { r with af := Config.afUpdate r.af hi lo none } ∧
    result (.eon14aV5 pi b2) (mapped 5) ∧ result (.eon14aV6 pi b2) (mapped 6) ∧ result (.eon14aV7 pi b2) (mapped 7) ∧
    result (.eon14aV8 pi b2) (mapped 8) ∧ result (.eon14aV9 pi b2) (mapped 9) ∧
    result (.eon14aV10 pi b2) r ∧ result (.eon14aV11 pi b2) r ∧
    result (.eon14aV12 pi b2) { r with linkage := some b2 } ∧
    result (.eon14aV13 pi b2) { r with pty := some (b2.extractLsb' 11 5), ta := some (b2.getLsbD 0) } ∧
    result (.eon14aV14 pi b2) { r with pin := some b2 } ∧ result (.eon14aV15 pi b2) r) ∧
  ∀ (s : State) (pi b2 : Word) (i : Instr),
    tabFind OtherNetwork.pi pi s.st.eon = none → 32 ≤ s.st.eon.length →
      i ∈ [Instr.eon14aV0 pi b2, .eon14aV1 pi b2, .eon14aV2 pi b2, .eon14aV3 pi b2, .eon14aV4 pi b2, .eon14aV5 pi b2,
        .eon14aV6 pi b2, .eon14aV7 pi b2, .eon14aV8 pi b2, .eon14aV9 pi b2, .eon14aV10 pi b2, .eon14aV11 pi b2,
        .eon14aV12 pi b2, .eon14aV13 pi b2, .eon14aV14 pi b2, .eon14aV15 pi b2] → exec i s = .next s

/-- 43_group_types R123: 14B writes TP(ON) and TA(ON) and emits an event on a transition of TA(ON) only. -/
def Obligations.Type14BResult : Prop :=
  ∀ (g : GroupFields) (s : State),
    let s' : State := { s with st := counted 29 g s.st }
    (g.f3 = false → exec (.group14B g) s = .next s') ∧
    (g.f3 = true → tabFind OtherNetwork.pi g.b3 s.st.eon = none → 32 ≤ s.st.eon.length →
      exec (.group14B g) s = .next s') ∧
    (∀ r : OtherNetwork, g.f3 = true →
      (tabFind OtherNetwork.pi g.b3 s.st.eon = some r ∨
        (tabFind OtherNetwork.pi g.b3 s.st.eon = none ∧ s.st.eon.length < 32 ∧ r = OtherNetwork.fresh g.b3)) →
      ∃ u, OnWritten s' u { r with tp := some (g.x.getLsbD 4), ta := some (g.x.getLsbD 3) } ∧
        exec (.group14B g) s = .next
          { u with
            events := s.events ++
              (if g.x.getLsbD 3 = true ∧ r.ta ≠ some true then [⟨g.bt, .eonSwitch g.b3⟩]
              else if g.x.getLsbD 3 = false ∧ r.ta = some true then [⟨g.bt, .eonReturn g.b3⟩] else []) })

/-- 43_group_types R124: 15B assigns TA, MS and a DI bit from block 1, and again from a valid block 3. -/
def Obligations.Type15BResult : Prop :=
  ∀ (g : GroupFields) (s : State) (d1 d3 : Fin 4), d1.val + (g.x.extractLsb' 0 2).toNat = 3 →
    d3.val + (g.b3.extractLsb' 0 2).toNat = 3 →
      exec (.group15B g) s = .next
        { s with
          st := { counted 31 g s.st with
            ta := some (if g.f3 then g.b3.getLsbD 4 else g.x.getLsbD 4)
            ms := some (if g.f3 then g.b3.getLsbD 3 else g.x.getLsbD 3)
            di := if g.f3 then (s.st.di.set d1 (some (g.x.getLsbD 2))).set d3 (some (g.b3.getLsbD 2))
              else s.st.di.set d1 (some (g.x.getLsbD 2)) } }

/-! ## TMC -/

/-- 44_tmc R129, R139 and R140: SINGLE emits its message, resolved in LT, and changes nothing else. -/
def Obligations.TmcSingleResult : Prop :=
  ∀ (s : State) (slot : Slot) (o : OdaSlot) (t : TmcInst) (dp : BitVec 3) (div dir : Bool) (ext : BitVec 3)
    (evt : BitVec 11) (loc : Word) (bt : BitTime), Holds s slot o t →
    let k : LocKey := ⟨s.params.tmcCid, s.params.tmcLtn, loc⟩
    let found := (s.lt.read k).isSome
    exec (.tmcSingle slot dp div dir ext evt loc bt) s = .next
      { s with
        tmcout := s.tmcout ++ [⟨bt,
          { single := true, dir := dir, ext := ext.setWidth 5, evt := evt, loc := loc, ci := none, dp := some dp, div := div
            dur := none, urg := 0, dirch := false, dynch := false, spkch := false, len := none, spd := none, qty := none
            si := none, nf := 0
            rloc := if found then some k else none
            rsec := if found then
                getOffset s.lt k ext.toNat (if dir then s.params.extentDir1 else s.params.extentDir0)
              else none }⟩] }

/-- 44_tmc R130: FIRST starts a pending message, whatever was pending before, and emits nothing. -/
def Obligations.TmcFirstResult : Prop :=
  ∀ (s : State) (slot : Slot) (o : OdaSlot) (t : TmcInst) (ci : BitVec 3) (dir : Bool) (ext : BitVec 3)
    (evt : BitVec 11) (loc : Word), Holds s slot o t →
    exec (.tmcFirst slot ci dir ext evt loc) s = .next (withInstance s slot o
      { t with
        msg := some
          { single := false, dir := dir, ext := ext.setWidth 5, evt := evt, loc := loc, ci := some ci, dp := none
            div := false, dur := none, urg := 0, dirch := false, dynch := false, spkch := false, len := none, spd := none
            qty := none, si := none, nf := 0, rloc := none, rsec := none }
        ci := some ci, next := some 1, total := none, q := [] })

/-- 44_tmc R131, R133, R135, R139 and R140: an accepted continuation pushes its 28 bits, drains, and either waits for the next
one or, with GSI = 0, emits the message, its locations resolved in LT at the extent its records left, and clears the
instance's pending state. -/
def Obligations.TmcContinuationAccepted : Prop :=
  ∀ (s : State) (slot : Slot) (o : OdaSlot) (t : TmcInst) (m : TmcMsg) (n : Nat) (ci : BitVec 3) (sg : Bool)
    (gsi : BitVec 2) (free12 : BitVec 12) (free16 : Word) (bt : BitTime),
    Holds s slot o t → t.msg = some m → t.ci = some ci → t.next = some n →
    ((sg = true ∧ n = 1) ∨ (sg = false ∧ ∃ T, t.total = some T ∧ (n : Int) = T - 1 - gsi.toNat)) →
    let d := drain slot (t.q ++ bitsMsb 12 free12.toNat ++ bitsMsb 16 free16.toNat) m
    let k : LocKey := ⟨s.params.tmcCid, s.params.tmcLtn, d.1.loc⟩
    let found := (s.lt.read k).isSome
    if gsi = 0 then
      exec (.tmcSubsequent slot ci sg gsi free12 free16 bt) s = .next
        { withInstance s slot o { t with msg := none, ci := none, next := none, total := none, q := [] } with
          tmcout := s.tmcout ++ [⟨bt,
            { d.1 with
              rloc := if found then some k else none
              rsec := if found then
                  getOffset s.lt k d.1.ext.toNat (if d.1.dir then s.params.extentDir1 else s.params.extentDir0)
                else none }⟩] }
    else
      exec (.tmcSubsequent slot ci sg gsi free12 free16 bt) s = .next
        (withInstance s slot o
          { t with
            msg := some d.1, next := some (n + 1), total := if sg then some (gsi.toNat + 2) else t.total, q := d.2 })

/-- 44_tmc R132: a continuation that fails a test of R131 changes nothing at all. -/
def Obligations.BrokenContinuationChangesNothing : Prop :=
  ∀ (s : State) (slot : Slot) (o : OdaSlot) (t : TmcInst) (ci : BitVec 3) (sg : Bool)
    (gsi : BitVec 2) (free12 : BitVec 12) (free16 : Word) (bt : BitTime), Holds s slot o t →
    (t.msg = none ∨ t.ci ≠ some ci ∨ (sg = false ∧ t.total = none) ∨ (sg = true ∧ t.next ≠ some 1) ∨
      (sg = false ∧ ∃ T, t.total = some T ∧ ∀ n, t.next = some n → (n : Int) ≠ T - 1 - gsi.toNat)) →
    exec (.tmcSubsequent slot ci sg gsi free12 free16 bt) s = .next s

/-- 44_tmc R141: TUNING runs the row of its variant field: 4 and 5 write the halves of the provider name, 6 and 7 add a triple
to the ONAF entry of PI(ON), created if the table has room, and every other variant changes nothing. -/
def Obligations.TmcTuningResults : Prop :=
  ∀ (s : State) (slot : Slot) (o : OdaSlot) (t : TmcInst) (b2 b3 : Word), Holds s slot o t →
    let c0 : Cell := some (b2.extractLsb' 8 8)
    let c1 : Cell := some (b2.extractLsb' 0 8)
    let c2 : Cell := some (b3.extractLsb' 8 8)
    let c3 : Cell := some (b3.extractLsb' 0 8)
    let onaf (n : BitVec 4) (i : Instr) : Prop :=
      ∃ table, exec i s = .next (withInstance s slot o { t with onaf := table }) ∧
        (∀ q, q ≠ b3 → tabFind OnafEntry.pi q table = tabFind OnafEntry.pi q t.onaf) ∧
        tabFind OnafEntry.pi b3 table =
          (match tabFind OnafEntry.pi b3 t.onaf with
          | some e =>
            some ⟨b3, (e.triples ++ [(⟨n, b2.extractLsb' 8 8, b2.extractLsb' 0 8⟩ : FreqTriple)]).drop
              (e.triples.length + 1 - 16)⟩
          | none =>
            if t.onaf.length < 32 then some ⟨b3, [(⟨n, b2.extractLsb' 8 8, b2.extractLsb' 0 8⟩ : FreqTriple)]⟩
            else none)
    (∀ n : BitVec 4, ∃ v u, decode (.tuning slot n b2 b3) = .ok v ∧ exec v s = .next u ∧
      exec (.tmcTuning slot n b2 b3) s = .next u) ∧
    exec (.tmcTuningV4 slot b2 b3) s = .next (withInstance s slot o
      { t with prov := #v[c0, c1, c2, c3, t.prov[4], t.prov[5], t.prov[6], t.prov[7]] }) ∧
    exec (.tmcTuningV5 slot b2 b3) s = .next (withInstance s slot o
      { t with prov := #v[t.prov[0], t.prov[1], t.prov[2], t.prov[3], c0, c1, c2, c3] }) ∧
    onaf 6 (.tmcTuningV6 slot b2 b3) ∧ onaf 7 (.tmcTuningV7 slot b2 b3) ∧
    exec (.tmcTuningV0 slot b2 b3) s = .next s ∧ exec (.tmcTuningV1 slot b2 b3) s = .next s ∧
    exec (.tmcTuningV2 slot b2 b3) s = .next s ∧ exec (.tmcTuningV3 slot b2 b3) s = .next s ∧
    exec (.tmcTuningV8 slot b2 b3) s = .next s ∧ exec (.tmcTuningV9 slot b2 b3) s = .next s ∧
    exec (.tmcTuningV10 slot b2 b3) s = .next s ∧ exec (.tmcTuningV11 slot b2 b3) s = .next s ∧
    exec (.tmcTuningV12 slot b2 b3) s = .next s ∧ exec (.tmcTuningV13 slot b2 b3) s = .next s ∧
    exec (.tmcTuningV14 slot b2 b3) s = .next s ∧ exec (.tmcTuningV15 slot b2 b3) s = .next s

/-- 44_tmc R135 to R138: labels 0 to 6 write their field of the pending message and count one record, the record (0, 0) being
dropped by the row itself (R135, log 20); label 1 applies its control code; labels 7 to 15 change no field. The row acts on the
message alone: taking the record's bits off the queue is DRAIN's (log 20). -/
def Obligations.LabelRowsResult : Prop :=
  ∀ (s : State) (slot : Slot) (o : OdaSlot) (t : TmcInst) (m : TmcMsg) (v3 : BitVec 3) (v5 : BitVec 5) (v8 : BitVec 8)
    (v11 : BitVec 11) (v16 : Word), Holds s slot o t → t.msg = some m →
    let result (i : Instr) (m' : TmcMsg) : Prop := exec i s = .next (withInstance s slot o { t with msg := some m' })
    let control (val : BitVec 3) (m' : TmcMsg) : Prop := result (.alertcL1 slot val) { m' with nf := m.nf + 1 }
    result (.alertcL0 slot v3) (if v3 = 0 then m else { m with dur := some v3, nf := m.nf + 1 }) ∧
    (control 0 { m with urg := m.urg + 1 } ∧ control 1 { m with urg := m.urg - 1 } ∧
      control 2 { m with dirch := !m.dirch } ∧ control 3 { m with dynch := !m.dynch } ∧
      control 4 { m with spkch := !m.spkch } ∧ control 5 { m with div := true } ∧
      control 6 { m with ext := BitVec.ofNat 5 ((m.ext.toNat + 8) % 32) } ∧
      control 7 { m with ext := BitVec.ofNat 5 ((m.ext.toNat + 16) % 32) }) ∧
    result (.alertcL2 slot v5)
      { m with
        len := some (if v5.toNat = 0 then .gt100 else if v5.toNat ≤ 10 then .km v5.toNat
          else if v5.toNat ≤ 15 then .km (10 + 2 * (v5.toNat - 10)) else .km (20 + 5 * (v5.toNat - 15)))
        nf := m.nf + 1 } ∧
    result (.alertcL3 slot v5) { m with spd := some (5 * v5.toNat), nf := m.nf + 1 } ∧
    result (.alertcL4 slot v5) { m with qty := some (.label4 v5), nf := m.nf + 1 } ∧
    result (.alertcL5 slot v8) { m with qty := some (.label5 v8), nf := m.nf + 1 } ∧
    result (.alertcL6 slot v8) { m with si := some v8, nf := m.nf + 1 } ∧
    exec (.alertcL7 slot v8) s = .next s ∧ exec (.alertcL8 slot v8) s = .next s ∧
    exec (.alertcL9 slot v11) s = .next s ∧ exec (.alertcL10 slot v16) s = .next s ∧
    exec (.alertcL11 slot v16) s = .next s ∧ exec (.alertcL12 slot v16) s = .next s ∧
    exec (.alertcL13 slot v16) s = .next s ∧ exec (.alertcL14 slot) s = .next s ∧ exec (.alertcL15 slot) s = .next s

/-- 44_tmc R135: DRAIN takes a complete record at the head of the queue, runs its label row on the pending message, and goes
on with the rest; with no complete record at the head it ends. -/
def Obligations.DrainRunsTheRecordAtTheHead : Prop :=
  ∀ (s : State) (slot : Slot) (o : OdaSlot) (t : TmcInst) (m : TmcMsg) (bits rest : List Bool) (i : Instr),
    Holds s slot o t → t.msg = some m →
      (decode (.record slot bits) = .ok i →
        ∃ m', exec i s = .next (withInstance s slot o { t with msg := some m' }) ∧
          drain slot (bits ++ rest) m = drain slot rest m') ∧
      ((rest.length < 4 ∨ rest.length < 4 + labelSize (bitsVal (rest.take 4))) → drain slot rest m = (m, rest))

/-- 44_tmc R134: after DRAIN no complete record is left, so at most 19 bits; with the 28 bits of a continuation the queue
never holds more than 47. -/
def Obligations.QueueBound : Prop :=
  (∀ (slot : Slot) (q : List Bool) (m : TmcMsg),
    let rest := (drain slot q m).2
    rest <:+ q ∧ (rest.length < 4 ∨ rest.length < 4 + labelSize (bitsVal (rest.take 4))) ∧ rest.length ≤ 19) ∧
    ∀ (q : List Bool) (a : BitVec 12) (b : Word), q.length ≤ 19 → (pushFree q a b).length ≤ 47

/-- The model's choice (log 21), 60_exceptions R155: a TMC row whose slot holds no instance changes nothing. -/
def Obligations.RowsOfASlotWithoutInstanceChangeNothing : Prop :=
  ∀ (i : Instr) (s : State) (slot : Slot), i.slot? = some slot →
    (∀ o t, ¬ Holds s slot o t) → exec i s = .next s

/-! ## The location walker -/

/-- 45_location R143 and R144, 20_memory R48: PARENT of each kind of record, in the record's own country and table, and CHAIN:
the keys from `k` up by PARENT to the first key with no parent, without repeats and at most |LT| of them; it is empty for a
missing key. -/
def Obligations.ChainIsTheParentPath : Prop :=
  (∀ (m : Memory) (k : LocKey), m.read k = none → parent m k = none) ∧
    (∀ (m : Memory) (k : LocKey) (r : LocRecord), m.read k = some r →
      parent m k =
        match r.kind with
        | .segment => if (m.follow r.pseg).isSome then m.follow r.pseg else m.follow r.proad
        | .point => if (m.follow r.seg).isSome then m.follow r.seg else m.follow r.road
        | .road => none
        | .area => m.follow r.areaKey) ∧
    (∀ (m : Memory) (k p : LocKey), parent m k = some p → p.cid = k.cid ∧ p.tabcd = k.tabcd) ∧
    ∀ (m : Memory) (k : LocKey) (c : List LocKey), chain m k = some c →
      (c = [] ↔ m.read k = none) ∧ (∀ x, c.head? = some x → x = k) ∧ c.IsChain (fun a b => parent m a = some b) ∧
        (∀ x, c.getLast? = some x → parent m x = none) ∧ c.Nodup ∧ c.length ≤ m.length

/-- 45_location R145: LOC_OFFSET returns none for a missing key; otherwise the key reached after `extent` steps, or the last
element of a shorter chain. It changes nothing else. -/
def Obligations.LocOffsetResult : Prop :=
  ∀ (s : State) (dir : Dir) (key : LocKey) (extent : BitVec 32), s.halted = false →
    (s.lt.read key = none → exec (.locOffset dir key extent) s = .next { s with reply := .key none }) ∧
      (∀ r, s.lt.read key = some r → ∃ k n,
        exec (.locOffset dir key extent) s = .next { s with reply := .key (some k) } ∧ reachIn s.lt dir n key k ∧
          n ≤ extent.toNat ∧ (n = extent.toNat ∨ neighbour s.lt dir k = none) ∧ (s.lt.read k).isSome)

/-- 45_location R146: LOC_ENCLOSING returns self for no secondary or the same one; otherwise the first key of self's chain
that is in secondary's chain, or none; a cyclic chain raises LT_CYCLE and nothing else. -/
def Obligations.LocEnclosingResult : Prop :=
  ∀ (s : State) (self sec : LocKey), s.halted = false →
    exec (.locEnclosing self none) s = .next { s with reply := .key (some self) } ∧
    exec (.locEnclosing self (some self)) s = .next { s with reply := .key (some self) } ∧
    (sec ≠ self →
      (∀ a b, chain s.lt self = some a → chain s.lt sec = some b → ∃ r,
        exec (.locEnclosing self (some sec)) s = .next { s with reply := .key r } ∧
          (r = none ↔ ∀ k ∈ a, k ∉ b) ∧
          ∀ k, r = some k → ∃ pre post, a = pre ++ k :: post ∧ k ∈ b ∧ ∀ x ∈ pre, x ∉ b) ∧
      ((chain s.lt self = none ∨ chain s.lt sec = none) →
        exec (.locEnclosing self (some sec)) s = .next
          { s with fault := { s.fault with ltCycle := true }, reply := .fault .ltCycle }))

/-- 45_location R147: LOC_COMPARE returns what COMPARE answers with N = |LT| recursions allowed (log 24), or raises LT_CYCLE and
nothing else. A call of COMPARE, at every allowance, branch by branch in their order: equal or missing keys, the ancestor test
whatever `neg` is, the walk's order reversed by `neg`, the parent segments with one recursion less allowed, and 0 otherwise;
a walk or a chain over its bound, and a recursion that is not allowed, fault. -/
def Obligations.LocCompareResult : Prop :=
  (∀ (s : State) (neg : Bool) (lhs rhs : LocKey), s.halted = false →
    (∀ r, compareFrom s.lt neg s.lt.length lhs rhs = some r →
      exec (.locCompare neg lhs rhs) s = .next { s with reply := .order r }) ∧
    (compareFrom s.lt neg s.lt.length lhs rhs = none →
      exec (.locCompare neg lhs rhs) s = .next
        { s with fault := { s.fault with ltCycle := true }, reply := .fault .ltCycle })) ∧
  ∀ (m : Memory) (neg : Bool) (allowed : Nat) (lhs rhs : LocKey),
    let answers (r : Int) : Prop := compareFrom m neg allowed lhs rhs = some r
    let faults : Prop := compareFrom m neg allowed lhs rhs = none
    (lhs = rhs ∨ m.read lhs = none ∨ m.read rhs = none → answers 0) ∧
    ∀ a b, lhs ≠ rhs → m.read lhs = some a → m.read rhs = some b →
      (chain m rhs = none → faults) ∧
      ∀ cr, chain m rhs = some cr →
        (lhs ∈ cr.tail → answers (-1)) ∧
        (lhs ∉ cr.tail → chain m lhs = none → faults) ∧
        ∀ cl, lhs ∉ cr.tail → chain m lhs = some cl →
          (rhs ∈ cl.tail → answers 1) ∧
          (rhs ∉ cl.tail →
            (a.kind ≠ b.kind ∨ a.kind = .road ∨ a.kind = .area → answers 0) ∧
            (a.kind = b.kind → a.kind = .point ∨ a.kind = .segment →
              (walk m lhs rhs = none → faults) ∧
              (∀ w, walk m lhs rhs = some w → w ≠ 0 → answers (if neg then -w else w)) ∧
              (walk m lhs rhs = some 0 →
                (a.kind = .point ∨ m.follow a.pseg = none ∨ m.follow b.pseg = none → answers 0) ∧
                ∀ pa pb, a.kind = .segment → m.follow a.pseg = some pa → m.follow b.pseg = some pb →
                  (allowed = 0 → faults) ∧
                    ∀ n, allowed = n + 1 → compareFrom m neg allowed lhs rhs = compareFrom m neg n pa pb)))

/-- 45_location R148, 20_memory R48: WALK answers -1 only for a key reached in the positive direction, +1 only for one reached
in the negative direction, and 0 only for one reached in neither. A walk steps from segments and points only, and stays in
their country and table. -/
def Obligations.WalkFindsTheSideOfTheKey : Prop :=
  (∀ (m : Memory) (lhs rhs : LocKey) (w : Int), walk m lhs rhs = some w →
    (w = -1 ∧ ∃ n, 0 < n ∧ reachIn m .pos n lhs rhs) ∨ (w = 1 ∧ ∃ n, 0 < n ∧ reachIn m .neg n lhs rhs) ∨
      (w = 0 ∧ ∀ n, 0 < n → ¬ reachIn m .pos n lhs rhs ∧ ¬ reachIn m .neg n lhs rhs)) ∧
  ∀ (m : Memory) (dir : Dir) (k n : LocKey), neighbour m dir k = some n →
    n.cid = k.cid ∧ n.tabcd = k.tabcd ∧ ∃ r, m.read k = some r ∧ (r.kind = .segment ∨ r.kind = .point)

/-- 45_location R144, R147, R148 and R149: on a table whose parent relation and offset chains are acyclic no location query
raises a fault. -/
def Obligations.AcyclicTableNeverFaults : Prop :=
  ∀ (s : State) (neg : Bool) (lhs rhs : LocKey) (sec : Option LocKey), s.halted = false →
    s.lt.ParentsAcyclic → s.lt.OffsetsAcyclic →
      (∃ r, exec (.locEnclosing lhs sec) s = .next { s with reply := .key r }) ∧
        ∃ r, exec (.locCompare neg lhs rhs) s = .next { s with reply := .order r }

/-! ## The hex dump -/

/-- 30_encoding R72: the reader reads back what the writer writes, an invalid block with value 0; and a dump of written groups
is replayed without a refusal, one GROUP_IN a line in order, the n-th with the bit-time the host supplies for it, or with 104 n
where it supplies none. -/
def Obligations.HexDumpLineRoundTrip : Prop :=
  let shown (flags : Vector Bool 4) (values : Vector Word 4) : Vector Word 4 :=
    #v[if flags[0] then values[0] else 0, if flags[1] then values[1] else 0, if flags[2] then values[2] else 0,
      if flags[3] then values[3] else 0]
  (∀ (flags : Vector Bool 4) (values : Vector Word 4),
    readLine (writeGroup flags values) = .group flags (shown flags values)) ∧
  ∀ (time : Nat → BitTime) (groups : List (Vector Bool 4 × Vector Word 4)),
    let lines := groups.map fun g => writeGroup g.1 g.2
    let delivered (d : Dump) (time : Nat → BitTime) : Prop :=
      d.refused = [] ∧ d.items.length = groups.length ∧ ∀ n g, groups[n]? = some g →
        ∃ f, d.items[n]? = some (.command f) ∧
          decode (.command f) = .ok (.groupIn g.1 (shown g.1 g.2) (time (n + 1)))
    delivered (readDumpWith time lines) time ∧ delivered (readDump lines) fun n => BitVec.ofNat 64 (104 * n)
end

