-- ==== Sys2Proof/Laws/State.lean ====
section
/-! SUPPORT. What each named update of the state does to each field: one lemma per update and field, true by rfl. -/

namespace Sys2Proof.Machine

variable (s : State)

@[simp] theorem State.shiftIn_sr (b : Bool) : (s.shiftIn b).sr = s.sr.extractLsb' 0 25 ++ BitVec.ofBool b := rfl
@[simp] theorem State.shiftIn_sync (b : Bool) : (s.shiftIn b).sync = s.sync := rfl
@[simp] theorem State.shiftIn_hist (b : Bool) : (s.shiftIn b).hist = s.hist := rfl
@[simp] theorem State.shiftIn_cur (b : Bool) : (s.shiftIn b).cur = s.cur := rfl
@[simp] theorem State.shiftIn_bcnt (b : Bool) : (s.shiftIn b).bcnt = s.bcnt := rfl
@[simp] theorem State.shiftIn_bt (b : Bool) : (s.shiftIn b).bt = s.bt + 1 := rfl
@[simp] theorem State.shiftIn_gval (b : Bool) : (s.shiftIn b).gval = s.gval := rfl
@[simp] theorem State.shiftIn_gflg (b : Bool) : (s.shiftIn b).gflg = s.gflg := rfl
@[simp] theorem State.shiftIn_badg (b : Bool) : (s.shiftIn b).badg = s.badg := rfl
@[simp] theorem State.shiftIn_halted (b : Bool) : (s.shiftIn b).halted = s.halted := rfl
@[simp] theorem State.shiftIn_fault (b : Bool) : (s.shiftIn b).fault = s.fault := rfl
@[simp] theorem State.shiftIn_suppress (b : Bool) : (s.shiftIn b).suppress = s.suppress := rfl
@[simp] theorem State.shiftIn_pimis (b : Bool) : (s.shiftIn b).pimis = s.pimis := rfl
@[simp] theorem State.shiftIn_st (b : Bool) : (s.shiftIn b).st = s.st := rfl
@[simp] theorem State.shiftIn_paging (b : Bool) : (s.shiftIn b).paging = s.paging := rfl
@[simp] theorem State.shiftIn_events (b : Bool) : (s.shiftIn b).events = s.events := rfl
@[simp] theorem State.shiftIn_groups (b : Bool) : (s.shiftIn b).groups = s.groups := rfl
@[simp] theorem State.shiftIn_synclog (b : Bool) : (s.shiftIn b).synclog = s.synclog := rfl
@[simp] theorem State.shiftIn_tmcout (b : Bool) : (s.shiftIn b).tmcout = s.tmcout := rfl
@[simp] theorem State.shiftIn_tunedFreq (b : Bool) : (s.shiftIn b).tunedFreq = s.tunedFreq := rfl
@[simp] theorem State.shiftIn_params (b : Bool) : (s.shiftIn b).params = s.params := rfl
@[simp] theorem State.shiftIn_lt (b : Bool) : (s.shiftIn b).lt = s.lt := rfl
@[simp] theorem State.shiftIn_port (b : Bool) : (s.shiftIn b).port = s.port := rfl
@[simp] theorem State.shiftIn_reply (b : Bool) : (s.shiftIn b).reply = s.reply := rfl

@[simp] theorem State.setSync_sr (v : Sync) : (s.setSync v).sr = s.sr := rfl
@[simp] theorem State.setSync_sync (v : Sync) : (s.setSync v).sync = v := rfl
@[simp] theorem State.setSync_hist (v : Sync) : (s.setSync v).hist = s.hist := rfl
@[simp] theorem State.setSync_cur (v : Sync) : (s.setSync v).cur = s.cur := rfl
@[simp] theorem State.setSync_bcnt (v : Sync) : (s.setSync v).bcnt = s.bcnt := rfl
@[simp] theorem State.setSync_bt (v : Sync) : (s.setSync v).bt = s.bt := rfl
@[simp] theorem State.setSync_gval (v : Sync) : (s.setSync v).gval = s.gval := rfl
@[simp] theorem State.setSync_gflg (v : Sync) : (s.setSync v).gflg = s.gflg := rfl
@[simp] theorem State.setSync_badg (v : Sync) : (s.setSync v).badg = s.badg := rfl
@[simp] theorem State.setSync_halted (v : Sync) : (s.setSync v).halted = s.halted := rfl
@[simp] theorem State.setSync_fault (v : Sync) : (s.setSync v).fault = s.fault := rfl
@[simp] theorem State.setSync_suppress (v : Sync) : (s.setSync v).suppress = s.suppress := rfl
@[simp] theorem State.setSync_pimis (v : Sync) : (s.setSync v).pimis = s.pimis := rfl
@[simp] theorem State.setSync_st (v : Sync) : (s.setSync v).st = s.st := rfl
@[simp] theorem State.setSync_paging (v : Sync) : (s.setSync v).paging = s.paging := rfl
@[simp] theorem State.setSync_events (v : Sync) : (s.setSync v).events = s.events := rfl
@[simp] theorem State.setSync_groups (v : Sync) : (s.setSync v).groups = s.groups := rfl
@[simp] theorem State.setSync_synclog (v : Sync) : (s.setSync v).synclog = s.synclog := rfl
@[simp] theorem State.setSync_tmcout (v : Sync) : (s.setSync v).tmcout = s.tmcout := rfl
@[simp] theorem State.setSync_tunedFreq (v : Sync) : (s.setSync v).tunedFreq = s.tunedFreq := rfl
@[simp] theorem State.setSync_params (v : Sync) : (s.setSync v).params = s.params := rfl
@[simp] theorem State.setSync_lt (v : Sync) : (s.setSync v).lt = s.lt := rfl
@[simp] theorem State.setSync_port (v : Sync) : (s.setSync v).port = s.port := rfl
@[simp] theorem State.setSync_reply (v : Sync) : (s.setSync v).reply = s.reply := rfl

@[simp] theorem State.setHist_sr (v : Vector (List BitTime) 104) : (s.setHist v).sr = s.sr := rfl
@[simp] theorem State.setHist_sync (v : Vector (List BitTime) 104) : (s.setHist v).sync = s.sync := rfl
@[simp] theorem State.setHist_hist (v : Vector (List BitTime) 104) : (s.setHist v).hist = v := rfl
@[simp] theorem State.setHist_cur (v : Vector (List BitTime) 104) : (s.setHist v).cur = s.cur := rfl
@[simp] theorem State.setHist_bcnt (v : Vector (List BitTime) 104) : (s.setHist v).bcnt = s.bcnt := rfl
@[simp] theorem State.setHist_bt (v : Vector (List BitTime) 104) : (s.setHist v).bt = s.bt := rfl
@[simp] theorem State.setHist_gval (v : Vector (List BitTime) 104) : (s.setHist v).gval = s.gval := rfl
@[simp] theorem State.setHist_gflg (v : Vector (List BitTime) 104) : (s.setHist v).gflg = s.gflg := rfl
@[simp] theorem State.setHist_badg (v : Vector (List BitTime) 104) : (s.setHist v).badg = s.badg := rfl
@[simp] theorem State.setHist_halted (v : Vector (List BitTime) 104) : (s.setHist v).halted = s.halted := rfl
@[simp] theorem State.setHist_fault (v : Vector (List BitTime) 104) : (s.setHist v).fault = s.fault := rfl
@[simp] theorem State.setHist_suppress (v : Vector (List BitTime) 104) : (s.setHist v).suppress = s.suppress := rfl
@[simp] theorem State.setHist_pimis (v : Vector (List BitTime) 104) : (s.setHist v).pimis = s.pimis := rfl
@[simp] theorem State.setHist_st (v : Vector (List BitTime) 104) : (s.setHist v).st = s.st := rfl
@[simp] theorem State.setHist_paging (v : Vector (List BitTime) 104) : (s.setHist v).paging = s.paging := rfl
@[simp] theorem State.setHist_events (v : Vector (List BitTime) 104) : (s.setHist v).events = s.events := rfl
@[simp] theorem State.setHist_groups (v : Vector (List BitTime) 104) : (s.setHist v).groups = s.groups := rfl
@[simp] theorem State.setHist_synclog (v : Vector (List BitTime) 104) : (s.setHist v).synclog = s.synclog := rfl
@[simp] theorem State.setHist_tmcout (v : Vector (List BitTime) 104) : (s.setHist v).tmcout = s.tmcout := rfl
@[simp] theorem State.setHist_tunedFreq (v : Vector (List BitTime) 104) : (s.setHist v).tunedFreq = s.tunedFreq := rfl
@[simp] theorem State.setHist_params (v : Vector (List BitTime) 104) : (s.setHist v).params = s.params := rfl
@[simp] theorem State.setHist_lt (v : Vector (List BitTime) 104) : (s.setHist v).lt = s.lt := rfl
@[simp] theorem State.setHist_port (v : Vector (List BitTime) 104) : (s.setHist v).port = s.port := rfl
@[simp] theorem State.setHist_reply (v : Vector (List BitTime) 104) : (s.setHist v).reply = s.reply := rfl

@[simp] theorem State.setCur_sr (v : Fin 4) : (s.setCur v).sr = s.sr := rfl
@[simp] theorem State.setCur_sync (v : Fin 4) : (s.setCur v).sync = s.sync := rfl
@[simp] theorem State.setCur_hist (v : Fin 4) : (s.setCur v).hist = s.hist := rfl
@[simp] theorem State.setCur_cur (v : Fin 4) : (s.setCur v).cur = v := rfl
@[simp] theorem State.setCur_bcnt (v : Fin 4) : (s.setCur v).bcnt = s.bcnt := rfl
@[simp] theorem State.setCur_bt (v : Fin 4) : (s.setCur v).bt = s.bt := rfl
@[simp] theorem State.setCur_gval (v : Fin 4) : (s.setCur v).gval = s.gval := rfl
@[simp] theorem State.setCur_gflg (v : Fin 4) : (s.setCur v).gflg = s.gflg := rfl
@[simp] theorem State.setCur_badg (v : Fin 4) : (s.setCur v).badg = s.badg := rfl
@[simp] theorem State.setCur_halted (v : Fin 4) : (s.setCur v).halted = s.halted := rfl
@[simp] theorem State.setCur_fault (v : Fin 4) : (s.setCur v).fault = s.fault := rfl
@[simp] theorem State.setCur_suppress (v : Fin 4) : (s.setCur v).suppress = s.suppress := rfl
@[simp] theorem State.setCur_pimis (v : Fin 4) : (s.setCur v).pimis = s.pimis := rfl
@[simp] theorem State.setCur_st (v : Fin 4) : (s.setCur v).st = s.st := rfl
@[simp] theorem State.setCur_paging (v : Fin 4) : (s.setCur v).paging = s.paging := rfl
@[simp] theorem State.setCur_events (v : Fin 4) : (s.setCur v).events = s.events := rfl
@[simp] theorem State.setCur_groups (v : Fin 4) : (s.setCur v).groups = s.groups := rfl
@[simp] theorem State.setCur_synclog (v : Fin 4) : (s.setCur v).synclog = s.synclog := rfl
@[simp] theorem State.setCur_tmcout (v : Fin 4) : (s.setCur v).tmcout = s.tmcout := rfl
@[simp] theorem State.setCur_tunedFreq (v : Fin 4) : (s.setCur v).tunedFreq = s.tunedFreq := rfl
@[simp] theorem State.setCur_params (v : Fin 4) : (s.setCur v).params = s.params := rfl
@[simp] theorem State.setCur_lt (v : Fin 4) : (s.setCur v).lt = s.lt := rfl
@[simp] theorem State.setCur_port (v : Fin 4) : (s.setCur v).port = s.port := rfl
@[simp] theorem State.setCur_reply (v : Fin 4) : (s.setCur v).reply = s.reply := rfl

@[simp] theorem State.setBcnt_sr (v : Nat) : (s.setBcnt v).sr = s.sr := rfl
@[simp] theorem State.setBcnt_sync (v : Nat) : (s.setBcnt v).sync = s.sync := rfl
@[simp] theorem State.setBcnt_hist (v : Nat) : (s.setBcnt v).hist = s.hist := rfl
@[simp] theorem State.setBcnt_cur (v : Nat) : (s.setBcnt v).cur = s.cur := rfl
@[simp] theorem State.setBcnt_bcnt (v : Nat) : (s.setBcnt v).bcnt = v := rfl
@[simp] theorem State.setBcnt_bt (v : Nat) : (s.setBcnt v).bt = s.bt := rfl
@[simp] theorem State.setBcnt_gval (v : Nat) : (s.setBcnt v).gval = s.gval := rfl
@[simp] theorem State.setBcnt_gflg (v : Nat) : (s.setBcnt v).gflg = s.gflg := rfl
@[simp] theorem State.setBcnt_badg (v : Nat) : (s.setBcnt v).badg = s.badg := rfl
@[simp] theorem State.setBcnt_halted (v : Nat) : (s.setBcnt v).halted = s.halted := rfl
@[simp] theorem State.setBcnt_fault (v : Nat) : (s.setBcnt v).fault = s.fault := rfl
@[simp] theorem State.setBcnt_suppress (v : Nat) : (s.setBcnt v).suppress = s.suppress := rfl
@[simp] theorem State.setBcnt_pimis (v : Nat) : (s.setBcnt v).pimis = s.pimis := rfl
@[simp] theorem State.setBcnt_st (v : Nat) : (s.setBcnt v).st = s.st := rfl
@[simp] theorem State.setBcnt_paging (v : Nat) : (s.setBcnt v).paging = s.paging := rfl
@[simp] theorem State.setBcnt_events (v : Nat) : (s.setBcnt v).events = s.events := rfl
@[simp] theorem State.setBcnt_groups (v : Nat) : (s.setBcnt v).groups = s.groups := rfl
@[simp] theorem State.setBcnt_synclog (v : Nat) : (s.setBcnt v).synclog = s.synclog := rfl
@[simp] theorem State.setBcnt_tmcout (v : Nat) : (s.setBcnt v).tmcout = s.tmcout := rfl
@[simp] theorem State.setBcnt_tunedFreq (v : Nat) : (s.setBcnt v).tunedFreq = s.tunedFreq := rfl
@[simp] theorem State.setBcnt_params (v : Nat) : (s.setBcnt v).params = s.params := rfl
@[simp] theorem State.setBcnt_lt (v : Nat) : (s.setBcnt v).lt = s.lt := rfl
@[simp] theorem State.setBcnt_port (v : Nat) : (s.setBcnt v).port = s.port := rfl
@[simp] theorem State.setBcnt_reply (v : Nat) : (s.setBcnt v).reply = s.reply := rfl

@[simp] theorem State.setGroupBuffer_sr (v : Vector Word 4) (f : Vector Bool 4) : (s.setGroupBuffer v f).sr = s.sr := rfl
@[simp] theorem State.setGroupBuffer_sync (v : Vector Word 4) (f : Vector Bool 4) : (s.setGroupBuffer v f).sync = s.sync := rfl
@[simp] theorem State.setGroupBuffer_hist (v : Vector Word 4) (f : Vector Bool 4) : (s.setGroupBuffer v f).hist = s.hist := rfl
@[simp] theorem State.setGroupBuffer_cur (v : Vector Word 4) (f : Vector Bool 4) : (s.setGroupBuffer v f).cur = s.cur := rfl
@[simp] theorem State.setGroupBuffer_bcnt (v : Vector Word 4) (f : Vector Bool 4) : (s.setGroupBuffer v f).bcnt = s.bcnt := rfl
@[simp] theorem State.setGroupBuffer_bt (v : Vector Word 4) (f : Vector Bool 4) : (s.setGroupBuffer v f).bt = s.bt := rfl
@[simp] theorem State.setGroupBuffer_gval (v : Vector Word 4) (f : Vector Bool 4) : (s.setGroupBuffer v f).gval = v := rfl
@[simp] theorem State.setGroupBuffer_gflg (v : Vector Word 4) (f : Vector Bool 4) : (s.setGroupBuffer v f).gflg = f := rfl
@[simp] theorem State.setGroupBuffer_badg (v : Vector Word 4) (f : Vector Bool 4) : (s.setGroupBuffer v f).badg = s.badg := rfl
@[simp] theorem State.setGroupBuffer_halted (v : Vector Word 4) (f : Vector Bool 4) : (s.setGroupBuffer v f).halted = s.halted := rfl
@[simp] theorem State.setGroupBuffer_fault (v : Vector Word 4) (f : Vector Bool 4) : (s.setGroupBuffer v f).fault = s.fault := rfl
@[simp] theorem State.setGroupBuffer_suppress (v : Vector Word 4) (f : Vector Bool 4) : (s.setGroupBuffer v f).suppress = s.suppress := rfl
@[simp] theorem State.setGroupBuffer_pimis (v : Vector Word 4) (f : Vector Bool 4) : (s.setGroupBuffer v f).pimis = s.pimis := rfl
@[simp] theorem State.setGroupBuffer_st (v : Vector Word 4) (f : Vector Bool 4) : (s.setGroupBuffer v f).st = s.st := rfl
@[simp] theorem State.setGroupBuffer_paging (v : Vector Word 4) (f : Vector Bool 4) : (s.setGroupBuffer v f).paging = s.paging := rfl
@[simp] theorem State.setGroupBuffer_events (v : Vector Word 4) (f : Vector Bool 4) : (s.setGroupBuffer v f).events = s.events := rfl
@[simp] theorem State.setGroupBuffer_groups (v : Vector Word 4) (f : Vector Bool 4) : (s.setGroupBuffer v f).groups = s.groups := rfl
@[simp] theorem State.setGroupBuffer_synclog (v : Vector Word 4) (f : Vector Bool 4) : (s.setGroupBuffer v f).synclog = s.synclog := rfl
@[simp] theorem State.setGroupBuffer_tmcout (v : Vector Word 4) (f : Vector Bool 4) : (s.setGroupBuffer v f).tmcout = s.tmcout := rfl
@[simp] theorem State.setGroupBuffer_tunedFreq (v : Vector Word 4) (f : Vector Bool 4) : (s.setGroupBuffer v f).tunedFreq = s.tunedFreq := rfl
@[simp] theorem State.setGroupBuffer_params (v : Vector Word 4) (f : Vector Bool 4) : (s.setGroupBuffer v f).params = s.params := rfl
@[simp] theorem State.setGroupBuffer_lt (v : Vector Word 4) (f : Vector Bool 4) : (s.setGroupBuffer v f).lt = s.lt := rfl
@[simp] theorem State.setGroupBuffer_port (v : Vector Word 4) (f : Vector Bool 4) : (s.setGroupBuffer v f).port = s.port := rfl
@[simp] theorem State.setGroupBuffer_reply (v : Vector Word 4) (f : Vector Bool 4) : (s.setGroupBuffer v f).reply = s.reply := rfl

@[simp] theorem State.setBadg_sr (v : Nat) : (s.setBadg v).sr = s.sr := rfl
@[simp] theorem State.setBadg_sync (v : Nat) : (s.setBadg v).sync = s.sync := rfl
@[simp] theorem State.setBadg_hist (v : Nat) : (s.setBadg v).hist = s.hist := rfl
@[simp] theorem State.setBadg_cur (v : Nat) : (s.setBadg v).cur = s.cur := rfl
@[simp] theorem State.setBadg_bcnt (v : Nat) : (s.setBadg v).bcnt = s.bcnt := rfl
@[simp] theorem State.setBadg_bt (v : Nat) : (s.setBadg v).bt = s.bt := rfl
@[simp] theorem State.setBadg_gval (v : Nat) : (s.setBadg v).gval = s.gval := rfl
@[simp] theorem State.setBadg_gflg (v : Nat) : (s.setBadg v).gflg = s.gflg := rfl
@[simp] theorem State.setBadg_badg (v : Nat) : (s.setBadg v).badg = v := rfl
@[simp] theorem State.setBadg_halted (v : Nat) : (s.setBadg v).halted = s.halted := rfl
@[simp] theorem State.setBadg_fault (v : Nat) : (s.setBadg v).fault = s.fault := rfl
@[simp] theorem State.setBadg_suppress (v : Nat) : (s.setBadg v).suppress = s.suppress := rfl
@[simp] theorem State.setBadg_pimis (v : Nat) : (s.setBadg v).pimis = s.pimis := rfl
@[simp] theorem State.setBadg_st (v : Nat) : (s.setBadg v).st = s.st := rfl
@[simp] theorem State.setBadg_paging (v : Nat) : (s.setBadg v).paging = s.paging := rfl
@[simp] theorem State.setBadg_events (v : Nat) : (s.setBadg v).events = s.events := rfl
@[simp] theorem State.setBadg_groups (v : Nat) : (s.setBadg v).groups = s.groups := rfl
@[simp] theorem State.setBadg_synclog (v : Nat) : (s.setBadg v).synclog = s.synclog := rfl
@[simp] theorem State.setBadg_tmcout (v : Nat) : (s.setBadg v).tmcout = s.tmcout := rfl
@[simp] theorem State.setBadg_tunedFreq (v : Nat) : (s.setBadg v).tunedFreq = s.tunedFreq := rfl
@[simp] theorem State.setBadg_params (v : Nat) : (s.setBadg v).params = s.params := rfl
@[simp] theorem State.setBadg_lt (v : Nat) : (s.setBadg v).lt = s.lt := rfl
@[simp] theorem State.setBadg_port (v : Nat) : (s.setBadg v).port = s.port := rfl
@[simp] theorem State.setBadg_reply (v : Nat) : (s.setBadg v).reply = s.reply := rfl

@[simp] theorem State.setHalted_sr (v : Bool) : (s.setHalted v).sr = s.sr := rfl
@[simp] theorem State.setHalted_sync (v : Bool) : (s.setHalted v).sync = s.sync := rfl
@[simp] theorem State.setHalted_hist (v : Bool) : (s.setHalted v).hist = s.hist := rfl
@[simp] theorem State.setHalted_cur (v : Bool) : (s.setHalted v).cur = s.cur := rfl
@[simp] theorem State.setHalted_bcnt (v : Bool) : (s.setHalted v).bcnt = s.bcnt := rfl
@[simp] theorem State.setHalted_bt (v : Bool) : (s.setHalted v).bt = s.bt := rfl
@[simp] theorem State.setHalted_gval (v : Bool) : (s.setHalted v).gval = s.gval := rfl
@[simp] theorem State.setHalted_gflg (v : Bool) : (s.setHalted v).gflg = s.gflg := rfl
@[simp] theorem State.setHalted_badg (v : Bool) : (s.setHalted v).badg = s.badg := rfl
@[simp] theorem State.setHalted_halted (v : Bool) : (s.setHalted v).halted = v := rfl
@[simp] theorem State.setHalted_fault (v : Bool) : (s.setHalted v).fault = s.fault := rfl
@[simp] theorem State.setHalted_suppress (v : Bool) : (s.setHalted v).suppress = s.suppress := rfl
@[simp] theorem State.setHalted_pimis (v : Bool) : (s.setHalted v).pimis = s.pimis := rfl
@[simp] theorem State.setHalted_st (v : Bool) : (s.setHalted v).st = s.st := rfl
@[simp] theorem State.setHalted_paging (v : Bool) : (s.setHalted v).paging = s.paging := rfl
@[simp] theorem State.setHalted_events (v : Bool) : (s.setHalted v).events = s.events := rfl
@[simp] theorem State.setHalted_groups (v : Bool) : (s.setHalted v).groups = s.groups := rfl
@[simp] theorem State.setHalted_synclog (v : Bool) : (s.setHalted v).synclog = s.synclog := rfl
@[simp] theorem State.setHalted_tmcout (v : Bool) : (s.setHalted v).tmcout = s.tmcout := rfl
@[simp] theorem State.setHalted_tunedFreq (v : Bool) : (s.setHalted v).tunedFreq = s.tunedFreq := rfl
@[simp] theorem State.setHalted_params (v : Bool) : (s.setHalted v).params = s.params := rfl
@[simp] theorem State.setHalted_lt (v : Bool) : (s.setHalted v).lt = s.lt := rfl
@[simp] theorem State.setHalted_port (v : Bool) : (s.setHalted v).port = s.port := rfl
@[simp] theorem State.setHalted_reply (v : Bool) : (s.setHalted v).reply = s.reply := rfl

@[simp] theorem State.setSuppress_sr (v : Bool) : (s.setSuppress v).sr = s.sr := rfl
@[simp] theorem State.setSuppress_sync (v : Bool) : (s.setSuppress v).sync = s.sync := rfl
@[simp] theorem State.setSuppress_hist (v : Bool) : (s.setSuppress v).hist = s.hist := rfl
@[simp] theorem State.setSuppress_cur (v : Bool) : (s.setSuppress v).cur = s.cur := rfl
@[simp] theorem State.setSuppress_bcnt (v : Bool) : (s.setSuppress v).bcnt = s.bcnt := rfl
@[simp] theorem State.setSuppress_bt (v : Bool) : (s.setSuppress v).bt = s.bt := rfl
@[simp] theorem State.setSuppress_gval (v : Bool) : (s.setSuppress v).gval = s.gval := rfl
@[simp] theorem State.setSuppress_gflg (v : Bool) : (s.setSuppress v).gflg = s.gflg := rfl
@[simp] theorem State.setSuppress_badg (v : Bool) : (s.setSuppress v).badg = s.badg := rfl
@[simp] theorem State.setSuppress_halted (v : Bool) : (s.setSuppress v).halted = s.halted := rfl
@[simp] theorem State.setSuppress_fault (v : Bool) : (s.setSuppress v).fault = s.fault := rfl
@[simp] theorem State.setSuppress_suppress (v : Bool) : (s.setSuppress v).suppress = v := rfl
@[simp] theorem State.setSuppress_pimis (v : Bool) : (s.setSuppress v).pimis = s.pimis := rfl
@[simp] theorem State.setSuppress_st (v : Bool) : (s.setSuppress v).st = s.st := rfl
@[simp] theorem State.setSuppress_paging (v : Bool) : (s.setSuppress v).paging = s.paging := rfl
@[simp] theorem State.setSuppress_events (v : Bool) : (s.setSuppress v).events = s.events := rfl
@[simp] theorem State.setSuppress_groups (v : Bool) : (s.setSuppress v).groups = s.groups := rfl
@[simp] theorem State.setSuppress_synclog (v : Bool) : (s.setSuppress v).synclog = s.synclog := rfl
@[simp] theorem State.setSuppress_tmcout (v : Bool) : (s.setSuppress v).tmcout = s.tmcout := rfl
@[simp] theorem State.setSuppress_tunedFreq (v : Bool) : (s.setSuppress v).tunedFreq = s.tunedFreq := rfl
@[simp] theorem State.setSuppress_params (v : Bool) : (s.setSuppress v).params = s.params := rfl
@[simp] theorem State.setSuppress_lt (v : Bool) : (s.setSuppress v).lt = s.lt := rfl
@[simp] theorem State.setSuppress_port (v : Bool) : (s.setSuppress v).port = s.port := rfl
@[simp] theorem State.setSuppress_reply (v : Bool) : (s.setSuppress v).reply = s.reply := rfl

@[simp] theorem State.setPimis_sr (v : Nat) : (s.setPimis v).sr = s.sr := rfl
@[simp] theorem State.setPimis_sync (v : Nat) : (s.setPimis v).sync = s.sync := rfl
@[simp] theorem State.setPimis_hist (v : Nat) : (s.setPimis v).hist = s.hist := rfl
@[simp] theorem State.setPimis_cur (v : Nat) : (s.setPimis v).cur = s.cur := rfl
@[simp] theorem State.setPimis_bcnt (v : Nat) : (s.setPimis v).bcnt = s.bcnt := rfl
@[simp] theorem State.setPimis_bt (v : Nat) : (s.setPimis v).bt = s.bt := rfl
@[simp] theorem State.setPimis_gval (v : Nat) : (s.setPimis v).gval = s.gval := rfl
@[simp] theorem State.setPimis_gflg (v : Nat) : (s.setPimis v).gflg = s.gflg := rfl
@[simp] theorem State.setPimis_badg (v : Nat) : (s.setPimis v).badg = s.badg := rfl
@[simp] theorem State.setPimis_halted (v : Nat) : (s.setPimis v).halted = s.halted := rfl
@[simp] theorem State.setPimis_fault (v : Nat) : (s.setPimis v).fault = s.fault := rfl
@[simp] theorem State.setPimis_suppress (v : Nat) : (s.setPimis v).suppress = s.suppress := rfl
@[simp] theorem State.setPimis_pimis (v : Nat) : (s.setPimis v).pimis = v := rfl
@[simp] theorem State.setPimis_st (v : Nat) : (s.setPimis v).st = s.st := rfl
@[simp] theorem State.setPimis_paging (v : Nat) : (s.setPimis v).paging = s.paging := rfl
@[simp] theorem State.setPimis_events (v : Nat) : (s.setPimis v).events = s.events := rfl
@[simp] theorem State.setPimis_groups (v : Nat) : (s.setPimis v).groups = s.groups := rfl
@[simp] theorem State.setPimis_synclog (v : Nat) : (s.setPimis v).synclog = s.synclog := rfl
@[simp] theorem State.setPimis_tmcout (v : Nat) : (s.setPimis v).tmcout = s.tmcout := rfl
@[simp] theorem State.setPimis_tunedFreq (v : Nat) : (s.setPimis v).tunedFreq = s.tunedFreq := rfl
@[simp] theorem State.setPimis_params (v : Nat) : (s.setPimis v).params = s.params := rfl
@[simp] theorem State.setPimis_lt (v : Nat) : (s.setPimis v).lt = s.lt := rfl
@[simp] theorem State.setPimis_port (v : Nat) : (s.setPimis v).port = s.port := rfl
@[simp] theorem State.setPimis_reply (v : Nat) : (s.setPimis v).reply = s.reply := rfl

@[simp] theorem State.updSt_sr (f : Station → Station) : (s.updSt f).sr = s.sr := rfl
@[simp] theorem State.updSt_sync (f : Station → Station) : (s.updSt f).sync = s.sync := rfl
@[simp] theorem State.updSt_hist (f : Station → Station) : (s.updSt f).hist = s.hist := rfl
@[simp] theorem State.updSt_cur (f : Station → Station) : (s.updSt f).cur = s.cur := rfl
@[simp] theorem State.updSt_bcnt (f : Station → Station) : (s.updSt f).bcnt = s.bcnt := rfl
@[simp] theorem State.updSt_bt (f : Station → Station) : (s.updSt f).bt = s.bt := rfl
@[simp] theorem State.updSt_gval (f : Station → Station) : (s.updSt f).gval = s.gval := rfl
@[simp] theorem State.updSt_gflg (f : Station → Station) : (s.updSt f).gflg = s.gflg := rfl
@[simp] theorem State.updSt_badg (f : Station → Station) : (s.updSt f).badg = s.badg := rfl
@[simp] theorem State.updSt_halted (f : Station → Station) : (s.updSt f).halted = s.halted := rfl
@[simp] theorem State.updSt_fault (f : Station → Station) : (s.updSt f).fault = s.fault := rfl
@[simp] theorem State.updSt_suppress (f : Station → Station) : (s.updSt f).suppress = s.suppress := rfl
@[simp] theorem State.updSt_pimis (f : Station → Station) : (s.updSt f).pimis = s.pimis := rfl
@[simp] theorem State.updSt_st (f : Station → Station) : (s.updSt f).st = f s.st := rfl
@[simp] theorem State.updSt_paging (f : Station → Station) : (s.updSt f).paging = s.paging := rfl
@[simp] theorem State.updSt_events (f : Station → Station) : (s.updSt f).events = s.events := rfl
@[simp] theorem State.updSt_groups (f : Station → Station) : (s.updSt f).groups = s.groups := rfl
@[simp] theorem State.updSt_synclog (f : Station → Station) : (s.updSt f).synclog = s.synclog := rfl
@[simp] theorem State.updSt_tmcout (f : Station → Station) : (s.updSt f).tmcout = s.tmcout := rfl
@[simp] theorem State.updSt_tunedFreq (f : Station → Station) : (s.updSt f).tunedFreq = s.tunedFreq := rfl
@[simp] theorem State.updSt_params (f : Station → Station) : (s.updSt f).params = s.params := rfl
@[simp] theorem State.updSt_lt (f : Station → Station) : (s.updSt f).lt = s.lt := rfl
@[simp] theorem State.updSt_port (f : Station → Station) : (s.updSt f).port = s.port := rfl
@[simp] theorem State.updSt_reply (f : Station → Station) : (s.updSt f).reply = s.reply := rfl

@[simp] theorem State.setPaging_sr (v : Config.PagingState) : (s.setPaging v).sr = s.sr := rfl
@[simp] theorem State.setPaging_sync (v : Config.PagingState) : (s.setPaging v).sync = s.sync := rfl
@[simp] theorem State.setPaging_hist (v : Config.PagingState) : (s.setPaging v).hist = s.hist := rfl
@[simp] theorem State.setPaging_cur (v : Config.PagingState) : (s.setPaging v).cur = s.cur := rfl
@[simp] theorem State.setPaging_bcnt (v : Config.PagingState) : (s.setPaging v).bcnt = s.bcnt := rfl
@[simp] theorem State.setPaging_bt (v : Config.PagingState) : (s.setPaging v).bt = s.bt := rfl
@[simp] theorem State.setPaging_gval (v : Config.PagingState) : (s.setPaging v).gval = s.gval := rfl
@[simp] theorem State.setPaging_gflg (v : Config.PagingState) : (s.setPaging v).gflg = s.gflg := rfl
@[simp] theorem State.setPaging_badg (v : Config.PagingState) : (s.setPaging v).badg = s.badg := rfl
@[simp] theorem State.setPaging_halted (v : Config.PagingState) : (s.setPaging v).halted = s.halted := rfl
@[simp] theorem State.setPaging_fault (v : Config.PagingState) : (s.setPaging v).fault = s.fault := rfl
@[simp] theorem State.setPaging_suppress (v : Config.PagingState) : (s.setPaging v).suppress = s.suppress := rfl
@[simp] theorem State.setPaging_pimis (v : Config.PagingState) : (s.setPaging v).pimis = s.pimis := rfl
@[simp] theorem State.setPaging_st (v : Config.PagingState) : (s.setPaging v).st = s.st := rfl
@[simp] theorem State.setPaging_paging (v : Config.PagingState) : (s.setPaging v).paging = v := rfl
@[simp] theorem State.setPaging_events (v : Config.PagingState) : (s.setPaging v).events = s.events := rfl
@[simp] theorem State.setPaging_groups (v : Config.PagingState) : (s.setPaging v).groups = s.groups := rfl
@[simp] theorem State.setPaging_synclog (v : Config.PagingState) : (s.setPaging v).synclog = s.synclog := rfl
@[simp] theorem State.setPaging_tmcout (v : Config.PagingState) : (s.setPaging v).tmcout = s.tmcout := rfl
@[simp] theorem State.setPaging_tunedFreq (v : Config.PagingState) : (s.setPaging v).tunedFreq = s.tunedFreq := rfl
@[simp] theorem State.setPaging_params (v : Config.PagingState) : (s.setPaging v).params = s.params := rfl
@[simp] theorem State.setPaging_lt (v : Config.PagingState) : (s.setPaging v).lt = s.lt := rfl
@[simp] theorem State.setPaging_port (v : Config.PagingState) : (s.setPaging v).port = s.port := rfl
@[simp] theorem State.setPaging_reply (v : Config.PagingState) : (s.setPaging v).reply = s.reply := rfl

@[simp] theorem State.emitEvent_sr (e : Event) : (s.emitEvent e).sr = s.sr := rfl
@[simp] theorem State.emitEvent_sync (e : Event) : (s.emitEvent e).sync = s.sync := rfl
@[simp] theorem State.emitEvent_hist (e : Event) : (s.emitEvent e).hist = s.hist := rfl
@[simp] theorem State.emitEvent_cur (e : Event) : (s.emitEvent e).cur = s.cur := rfl
@[simp] theorem State.emitEvent_bcnt (e : Event) : (s.emitEvent e).bcnt = s.bcnt := rfl
@[simp] theorem State.emitEvent_bt (e : Event) : (s.emitEvent e).bt = s.bt := rfl
@[simp] theorem State.emitEvent_gval (e : Event) : (s.emitEvent e).gval = s.gval := rfl
@[simp] theorem State.emitEvent_gflg (e : Event) : (s.emitEvent e).gflg = s.gflg := rfl
@[simp] theorem State.emitEvent_badg (e : Event) : (s.emitEvent e).badg = s.badg := rfl
@[simp] theorem State.emitEvent_halted (e : Event) : (s.emitEvent e).halted = s.halted := rfl
@[simp] theorem State.emitEvent_fault (e : Event) : (s.emitEvent e).fault = s.fault := rfl
@[simp] theorem State.emitEvent_suppress (e : Event) : (s.emitEvent e).suppress = s.suppress := rfl
@[simp] theorem State.emitEvent_pimis (e : Event) : (s.emitEvent e).pimis = s.pimis := rfl
@[simp] theorem State.emitEvent_st (e : Event) : (s.emitEvent e).st = s.st := rfl
@[simp] theorem State.emitEvent_paging (e : Event) : (s.emitEvent e).paging = s.paging := rfl
@[simp] theorem State.emitEvent_events (e : Event) : (s.emitEvent e).events = s.events ++ [e] := rfl
@[simp] theorem State.emitEvent_groups (e : Event) : (s.emitEvent e).groups = s.groups := rfl
@[simp] theorem State.emitEvent_synclog (e : Event) : (s.emitEvent e).synclog = s.synclog := rfl
@[simp] theorem State.emitEvent_tmcout (e : Event) : (s.emitEvent e).tmcout = s.tmcout := rfl
@[simp] theorem State.emitEvent_tunedFreq (e : Event) : (s.emitEvent e).tunedFreq = s.tunedFreq := rfl
@[simp] theorem State.emitEvent_params (e : Event) : (s.emitEvent e).params = s.params := rfl
@[simp] theorem State.emitEvent_lt (e : Event) : (s.emitEvent e).lt = s.lt := rfl
@[simp] theorem State.emitEvent_port (e : Event) : (s.emitEvent e).port = s.port := rfl
@[simp] theorem State.emitEvent_reply (e : Event) : (s.emitEvent e).reply = s.reply := rfl

@[simp] theorem State.emitGroup_sr (g : Group) : (s.emitGroup g).sr = s.sr := rfl
@[simp] theorem State.emitGroup_sync (g : Group) : (s.emitGroup g).sync = s.sync := rfl
@[simp] theorem State.emitGroup_hist (g : Group) : (s.emitGroup g).hist = s.hist := rfl
@[simp] theorem State.emitGroup_cur (g : Group) : (s.emitGroup g).cur = s.cur := rfl
@[simp] theorem State.emitGroup_bcnt (g : Group) : (s.emitGroup g).bcnt = s.bcnt := rfl
@[simp] theorem State.emitGroup_bt (g : Group) : (s.emitGroup g).bt = s.bt := rfl
@[simp] theorem State.emitGroup_gval (g : Group) : (s.emitGroup g).gval = s.gval := rfl
@[simp] theorem State.emitGroup_gflg (g : Group) : (s.emitGroup g).gflg = s.gflg := rfl
@[simp] theorem State.emitGroup_badg (g : Group) : (s.emitGroup g).badg = s.badg := rfl
@[simp] theorem State.emitGroup_halted (g : Group) : (s.emitGroup g).halted = s.halted := rfl
@[simp] theorem State.emitGroup_fault (g : Group) : (s.emitGroup g).fault = s.fault := rfl
@[simp] theorem State.emitGroup_suppress (g : Group) : (s.emitGroup g).suppress = s.suppress := rfl
@[simp] theorem State.emitGroup_pimis (g : Group) : (s.emitGroup g).pimis = s.pimis := rfl
@[simp] theorem State.emitGroup_st (g : Group) : (s.emitGroup g).st = s.st := rfl
@[simp] theorem State.emitGroup_paging (g : Group) : (s.emitGroup g).paging = s.paging := rfl
@[simp] theorem State.emitGroup_events (g : Group) : (s.emitGroup g).events = s.events := rfl
@[simp] theorem State.emitGroup_groups (g : Group) : (s.emitGroup g).groups = s.groups ++ [g] := rfl
@[simp] theorem State.emitGroup_synclog (g : Group) : (s.emitGroup g).synclog = s.synclog := rfl
@[simp] theorem State.emitGroup_tmcout (g : Group) : (s.emitGroup g).tmcout = s.tmcout := rfl
@[simp] theorem State.emitGroup_tunedFreq (g : Group) : (s.emitGroup g).tunedFreq = s.tunedFreq := rfl
@[simp] theorem State.emitGroup_params (g : Group) : (s.emitGroup g).params = s.params := rfl
@[simp] theorem State.emitGroup_lt (g : Group) : (s.emitGroup g).lt = s.lt := rfl
@[simp] theorem State.emitGroup_port (g : Group) : (s.emitGroup g).port = s.port := rfl
@[simp] theorem State.emitGroup_reply (g : Group) : (s.emitGroup g).reply = s.reply := rfl

@[simp] theorem State.logSync_sr (r : SyncRecord) : (s.logSync r).sr = s.sr := rfl
@[simp] theorem State.logSync_sync (r : SyncRecord) : (s.logSync r).sync = s.sync := rfl
@[simp] theorem State.logSync_hist (r : SyncRecord) : (s.logSync r).hist = s.hist := rfl
@[simp] theorem State.logSync_cur (r : SyncRecord) : (s.logSync r).cur = s.cur := rfl
@[simp] theorem State.logSync_bcnt (r : SyncRecord) : (s.logSync r).bcnt = s.bcnt := rfl
@[simp] theorem State.logSync_bt (r : SyncRecord) : (s.logSync r).bt = s.bt := rfl
@[simp] theorem State.logSync_gval (r : SyncRecord) : (s.logSync r).gval = s.gval := rfl
@[simp] theorem State.logSync_gflg (r : SyncRecord) : (s.logSync r).gflg = s.gflg := rfl
@[simp] theorem State.logSync_badg (r : SyncRecord) : (s.logSync r).badg = s.badg := rfl
@[simp] theorem State.logSync_halted (r : SyncRecord) : (s.logSync r).halted = s.halted := rfl
@[simp] theorem State.logSync_fault (r : SyncRecord) : (s.logSync r).fault = s.fault := rfl
@[simp] theorem State.logSync_suppress (r : SyncRecord) : (s.logSync r).suppress = s.suppress := rfl
@[simp] theorem State.logSync_pimis (r : SyncRecord) : (s.logSync r).pimis = s.pimis := rfl
@[simp] theorem State.logSync_st (r : SyncRecord) : (s.logSync r).st = s.st := rfl
@[simp] theorem State.logSync_paging (r : SyncRecord) : (s.logSync r).paging = s.paging := rfl
@[simp] theorem State.logSync_events (r : SyncRecord) : (s.logSync r).events = s.events := rfl
@[simp] theorem State.logSync_groups (r : SyncRecord) : (s.logSync r).groups = s.groups := rfl
@[simp] theorem State.logSync_synclog (r : SyncRecord) : (s.logSync r).synclog = s.synclog ++ [r] := rfl
@[simp] theorem State.logSync_tmcout (r : SyncRecord) : (s.logSync r).tmcout = s.tmcout := rfl
@[simp] theorem State.logSync_tunedFreq (r : SyncRecord) : (s.logSync r).tunedFreq = s.tunedFreq := rfl
@[simp] theorem State.logSync_params (r : SyncRecord) : (s.logSync r).params = s.params := rfl
@[simp] theorem State.logSync_lt (r : SyncRecord) : (s.logSync r).lt = s.lt := rfl
@[simp] theorem State.logSync_port (r : SyncRecord) : (s.logSync r).port = s.port := rfl
@[simp] theorem State.logSync_reply (r : SyncRecord) : (s.logSync r).reply = s.reply := rfl

@[simp] theorem State.emitTmc_sr (o : TmcOut) : (s.emitTmc o).sr = s.sr := rfl
@[simp] theorem State.emitTmc_sync (o : TmcOut) : (s.emitTmc o).sync = s.sync := rfl
@[simp] theorem State.emitTmc_hist (o : TmcOut) : (s.emitTmc o).hist = s.hist := rfl
@[simp] theorem State.emitTmc_cur (o : TmcOut) : (s.emitTmc o).cur = s.cur := rfl
@[simp] theorem State.emitTmc_bcnt (o : TmcOut) : (s.emitTmc o).bcnt = s.bcnt := rfl
@[simp] theorem State.emitTmc_bt (o : TmcOut) : (s.emitTmc o).bt = s.bt := rfl
@[simp] theorem State.emitTmc_gval (o : TmcOut) : (s.emitTmc o).gval = s.gval := rfl
@[simp] theorem State.emitTmc_gflg (o : TmcOut) : (s.emitTmc o).gflg = s.gflg := rfl
@[simp] theorem State.emitTmc_badg (o : TmcOut) : (s.emitTmc o).badg = s.badg := rfl
@[simp] theorem State.emitTmc_halted (o : TmcOut) : (s.emitTmc o).halted = s.halted := rfl
@[simp] theorem State.emitTmc_fault (o : TmcOut) : (s.emitTmc o).fault = s.fault := rfl
@[simp] theorem State.emitTmc_suppress (o : TmcOut) : (s.emitTmc o).suppress = s.suppress := rfl
@[simp] theorem State.emitTmc_pimis (o : TmcOut) : (s.emitTmc o).pimis = s.pimis := rfl
@[simp] theorem State.emitTmc_st (o : TmcOut) : (s.emitTmc o).st = s.st := rfl
@[simp] theorem State.emitTmc_paging (o : TmcOut) : (s.emitTmc o).paging = s.paging := rfl
@[simp] theorem State.emitTmc_events (o : TmcOut) : (s.emitTmc o).events = s.events := rfl
@[simp] theorem State.emitTmc_groups (o : TmcOut) : (s.emitTmc o).groups = s.groups := rfl
@[simp] theorem State.emitTmc_synclog (o : TmcOut) : (s.emitTmc o).synclog = s.synclog := rfl
@[simp] theorem State.emitTmc_tmcout (o : TmcOut) : (s.emitTmc o).tmcout = s.tmcout ++ [o] := rfl
@[simp] theorem State.emitTmc_tunedFreq (o : TmcOut) : (s.emitTmc o).tunedFreq = s.tunedFreq := rfl
@[simp] theorem State.emitTmc_params (o : TmcOut) : (s.emitTmc o).params = s.params := rfl
@[simp] theorem State.emitTmc_lt (o : TmcOut) : (s.emitTmc o).lt = s.lt := rfl
@[simp] theorem State.emitTmc_port (o : TmcOut) : (s.emitTmc o).port = s.port := rfl
@[simp] theorem State.emitTmc_reply (o : TmcOut) : (s.emitTmc o).reply = s.reply := rfl

@[simp] theorem State.setFreq_sr (v : Option Nat) : (s.setFreq v).sr = s.sr := rfl
@[simp] theorem State.setFreq_sync (v : Option Nat) : (s.setFreq v).sync = s.sync := rfl
@[simp] theorem State.setFreq_hist (v : Option Nat) : (s.setFreq v).hist = s.hist := rfl
@[simp] theorem State.setFreq_cur (v : Option Nat) : (s.setFreq v).cur = s.cur := rfl
@[simp] theorem State.setFreq_bcnt (v : Option Nat) : (s.setFreq v).bcnt = s.bcnt := rfl
@[simp] theorem State.setFreq_bt (v : Option Nat) : (s.setFreq v).bt = s.bt := rfl
@[simp] theorem State.setFreq_gval (v : Option Nat) : (s.setFreq v).gval = s.gval := rfl
@[simp] theorem State.setFreq_gflg (v : Option Nat) : (s.setFreq v).gflg = s.gflg := rfl
@[simp] theorem State.setFreq_badg (v : Option Nat) : (s.setFreq v).badg = s.badg := rfl
@[simp] theorem State.setFreq_halted (v : Option Nat) : (s.setFreq v).halted = s.halted := rfl
@[simp] theorem State.setFreq_fault (v : Option Nat) : (s.setFreq v).fault = s.fault := rfl
@[simp] theorem State.setFreq_suppress (v : Option Nat) : (s.setFreq v).suppress = s.suppress := rfl
@[simp] theorem State.setFreq_pimis (v : Option Nat) : (s.setFreq v).pimis = s.pimis := rfl
@[simp] theorem State.setFreq_st (v : Option Nat) : (s.setFreq v).st = s.st := rfl
@[simp] theorem State.setFreq_paging (v : Option Nat) : (s.setFreq v).paging = s.paging := rfl
@[simp] theorem State.setFreq_events (v : Option Nat) : (s.setFreq v).events = s.events := rfl
@[simp] theorem State.setFreq_groups (v : Option Nat) : (s.setFreq v).groups = s.groups := rfl
@[simp] theorem State.setFreq_synclog (v : Option Nat) : (s.setFreq v).synclog = s.synclog := rfl
@[simp] theorem State.setFreq_tmcout (v : Option Nat) : (s.setFreq v).tmcout = s.tmcout := rfl
@[simp] theorem State.setFreq_tunedFreq (v : Option Nat) : (s.setFreq v).tunedFreq = v := rfl
@[simp] theorem State.setFreq_params (v : Option Nat) : (s.setFreq v).params = s.params := rfl
@[simp] theorem State.setFreq_lt (v : Option Nat) : (s.setFreq v).lt = s.lt := rfl
@[simp] theorem State.setFreq_port (v : Option Nat) : (s.setFreq v).port = s.port := rfl
@[simp] theorem State.setFreq_reply (v : Option Nat) : (s.setFreq v).reply = s.reply := rfl

@[simp] theorem State.setPort_sr (v : List PortItem) : (s.setPort v).sr = s.sr := rfl
@[simp] theorem State.setPort_sync (v : List PortItem) : (s.setPort v).sync = s.sync := rfl
@[simp] theorem State.setPort_hist (v : List PortItem) : (s.setPort v).hist = s.hist := rfl
@[simp] theorem State.setPort_cur (v : List PortItem) : (s.setPort v).cur = s.cur := rfl
@[simp] theorem State.setPort_bcnt (v : List PortItem) : (s.setPort v).bcnt = s.bcnt := rfl
@[simp] theorem State.setPort_bt (v : List PortItem) : (s.setPort v).bt = s.bt := rfl
@[simp] theorem State.setPort_gval (v : List PortItem) : (s.setPort v).gval = s.gval := rfl
@[simp] theorem State.setPort_gflg (v : List PortItem) : (s.setPort v).gflg = s.gflg := rfl
@[simp] theorem State.setPort_badg (v : List PortItem) : (s.setPort v).badg = s.badg := rfl
@[simp] theorem State.setPort_halted (v : List PortItem) : (s.setPort v).halted = s.halted := rfl
@[simp] theorem State.setPort_fault (v : List PortItem) : (s.setPort v).fault = s.fault := rfl
@[simp] theorem State.setPort_suppress (v : List PortItem) : (s.setPort v).suppress = s.suppress := rfl
@[simp] theorem State.setPort_pimis (v : List PortItem) : (s.setPort v).pimis = s.pimis := rfl
@[simp] theorem State.setPort_st (v : List PortItem) : (s.setPort v).st = s.st := rfl
@[simp] theorem State.setPort_paging (v : List PortItem) : (s.setPort v).paging = s.paging := rfl
@[simp] theorem State.setPort_events (v : List PortItem) : (s.setPort v).events = s.events := rfl
@[simp] theorem State.setPort_groups (v : List PortItem) : (s.setPort v).groups = s.groups := rfl
@[simp] theorem State.setPort_synclog (v : List PortItem) : (s.setPort v).synclog = s.synclog := rfl
@[simp] theorem State.setPort_tmcout (v : List PortItem) : (s.setPort v).tmcout = s.tmcout := rfl
@[simp] theorem State.setPort_tunedFreq (v : List PortItem) : (s.setPort v).tunedFreq = s.tunedFreq := rfl
@[simp] theorem State.setPort_params (v : List PortItem) : (s.setPort v).params = s.params := rfl
@[simp] theorem State.setPort_lt (v : List PortItem) : (s.setPort v).lt = s.lt := rfl
@[simp] theorem State.setPort_port (v : List PortItem) : (s.setPort v).port = v := rfl
@[simp] theorem State.setPort_reply (v : List PortItem) : (s.setPort v).reply = s.reply := rfl

@[simp] theorem State.setReply_sr (v : Reply) : (s.setReply v).sr = s.sr := rfl
@[simp] theorem State.setReply_sync (v : Reply) : (s.setReply v).sync = s.sync := rfl
@[simp] theorem State.setReply_hist (v : Reply) : (s.setReply v).hist = s.hist := rfl
@[simp] theorem State.setReply_cur (v : Reply) : (s.setReply v).cur = s.cur := rfl
@[simp] theorem State.setReply_bcnt (v : Reply) : (s.setReply v).bcnt = s.bcnt := rfl
@[simp] theorem State.setReply_bt (v : Reply) : (s.setReply v).bt = s.bt := rfl
@[simp] theorem State.setReply_gval (v : Reply) : (s.setReply v).gval = s.gval := rfl
@[simp] theorem State.setReply_gflg (v : Reply) : (s.setReply v).gflg = s.gflg := rfl
@[simp] theorem State.setReply_badg (v : Reply) : (s.setReply v).badg = s.badg := rfl
@[simp] theorem State.setReply_halted (v : Reply) : (s.setReply v).halted = s.halted := rfl
@[simp] theorem State.setReply_fault (v : Reply) : (s.setReply v).fault = s.fault := rfl
@[simp] theorem State.setReply_suppress (v : Reply) : (s.setReply v).suppress = s.suppress := rfl
@[simp] theorem State.setReply_pimis (v : Reply) : (s.setReply v).pimis = s.pimis := rfl
@[simp] theorem State.setReply_st (v : Reply) : (s.setReply v).st = s.st := rfl
@[simp] theorem State.setReply_paging (v : Reply) : (s.setReply v).paging = s.paging := rfl
@[simp] theorem State.setReply_events (v : Reply) : (s.setReply v).events = s.events := rfl
@[simp] theorem State.setReply_groups (v : Reply) : (s.setReply v).groups = s.groups := rfl
@[simp] theorem State.setReply_synclog (v : Reply) : (s.setReply v).synclog = s.synclog := rfl
@[simp] theorem State.setReply_tmcout (v : Reply) : (s.setReply v).tmcout = s.tmcout := rfl
@[simp] theorem State.setReply_tunedFreq (v : Reply) : (s.setReply v).tunedFreq = s.tunedFreq := rfl
@[simp] theorem State.setReply_params (v : Reply) : (s.setReply v).params = s.params := rfl
@[simp] theorem State.setReply_lt (v : Reply) : (s.setReply v).lt = s.lt := rfl
@[simp] theorem State.setReply_port (v : Reply) : (s.setReply v).port = s.port := rfl
@[simp] theorem State.setReply_reply (v : Reply) : (s.setReply v).reply = v := rfl

@[simp] theorem State.raise_sr (r : FaultReason) : (s.raise r).sr = s.sr := rfl
@[simp] theorem State.raise_sync (r : FaultReason) : (s.raise r).sync = s.sync := rfl
@[simp] theorem State.raise_hist (r : FaultReason) : (s.raise r).hist = s.hist := rfl
@[simp] theorem State.raise_cur (r : FaultReason) : (s.raise r).cur = s.cur := rfl
@[simp] theorem State.raise_bcnt (r : FaultReason) : (s.raise r).bcnt = s.bcnt := rfl
@[simp] theorem State.raise_bt (r : FaultReason) : (s.raise r).bt = s.bt := rfl
@[simp] theorem State.raise_gval (r : FaultReason) : (s.raise r).gval = s.gval := rfl
@[simp] theorem State.raise_gflg (r : FaultReason) : (s.raise r).gflg = s.gflg := rfl
@[simp] theorem State.raise_badg (r : FaultReason) : (s.raise r).badg = s.badg := rfl
@[simp] theorem State.raise_halted (r : FaultReason) : (s.raise r).halted = s.halted := rfl
@[simp] theorem State.raise_fault (r : FaultReason) : (s.raise r).fault = s.fault.add r := rfl
@[simp] theorem State.raise_suppress (r : FaultReason) : (s.raise r).suppress = s.suppress := rfl
@[simp] theorem State.raise_pimis (r : FaultReason) : (s.raise r).pimis = s.pimis := rfl
@[simp] theorem State.raise_st (r : FaultReason) : (s.raise r).st = s.st := rfl
@[simp] theorem State.raise_paging (r : FaultReason) : (s.raise r).paging = s.paging := rfl
@[simp] theorem State.raise_events (r : FaultReason) : (s.raise r).events = s.events := rfl
@[simp] theorem State.raise_groups (r : FaultReason) : (s.raise r).groups = s.groups := rfl
@[simp] theorem State.raise_synclog (r : FaultReason) : (s.raise r).synclog = s.synclog := rfl
@[simp] theorem State.raise_tmcout (r : FaultReason) : (s.raise r).tmcout = s.tmcout := rfl
@[simp] theorem State.raise_tunedFreq (r : FaultReason) : (s.raise r).tunedFreq = s.tunedFreq := rfl
@[simp] theorem State.raise_params (r : FaultReason) : (s.raise r).params = s.params := rfl
@[simp] theorem State.raise_lt (r : FaultReason) : (s.raise r).lt = s.lt := rfl
@[simp] theorem State.raise_port (r : FaultReason) : (s.raise r).port = s.port := rfl
@[simp] theorem State.raise_reply (r : FaultReason) : (s.raise r).reply = .fault r := rfl

end Sys2Proof.Machine
end

