-- ==== Sys2Proof/Laws/Ops.lean ====
section
/-! SUPPORT. What the shared operations of Machine/Ops.lean can do, said once each. -/

namespace Sys2Proof.Machine

open Sys2Proof

/-! ## Stuck and faults -/

theorem unlessHalted_runs {s s' : State} (h : s.halted = false) : unlessHalted s s' = .next s' := by
  simp [unlessHalted, h]

theorem unlessHalted_stuck {s s' : State} (h : s.halted = true) : unlessHalted s s' = .fault .stuckHalted := by
  simp [unlessHalted, h]

theorem unlessHalted_next {s s' t : State} (h : unlessHalted s s' = .next t) : s.halted = false ∧ t = s' := by
  unfold unlessHalted at h
  split at h
  · cases h
  · exact ⟨by simp_all, by cases h; rfl⟩

theorem FaultSet.add_keeps (r : FaultReason) (f : FaultSet) :
    (f.badOp = true → (f.add r).badOp = true) ∧ (f.ltCycle = true → (f.add r).ltCycle = true) := by
  cases r <;> simp [FaultSet.add]

/-! ## LT -/

theorem Memory.read_some {m : Memory} {k : LocKey} {r : LocRecord} (h : m.read k = some r) : r ∈ m ∧ r.key = k := by
  refine ⟨List.mem_of_find?_eq_some h, ?_⟩
  simpa using List.find?_some h

theorem Memory.follow_some {m : Memory} {ref : Option LocKey} {k : LocKey} (h : m.follow ref = some k) :
    ref = some k ∧ (m.read k).isSome := by
  unfold Memory.follow at h
  split at h
  · cases h
  · split at h
    · cases h; exact ⟨rfl, ‹_›⟩
    · cases h

/-! ## Keyed tables and bounded lists -/

section Tables

variable {α : Type} {key : α → Word}

theorem tabFind_key {k : Word} {t : List α} {a : α} (h : tabFind key k t = some a) : key a = k := by
  simpa using List.find?_some h

theorem tabFind_mem {k : Word} {t : List α} {a : α} (h : tabFind key k t = some a) : a ∈ t :=
  List.mem_of_find?_eq_some h

/-- A written entry is found at its key, and every other key is found as before. -/
theorem tabFind_tabPut (a : α) (k : Word) (t : List α) :
    tabFind key k (tabPut key a t) = if k = key a then some a else tabFind key k t := by
  have find_cons (x : α) (xs : List α) :
      tabFind key k (x :: xs) = if key x = k then some x else tabFind key k xs := by
    by_cases h : key x = k <;> simp [tabFind, h]
  induction t with
  | nil => simp [tabPut, find_cons, eq_comm]
  | cons b bs ih =>
    unfold tabPut
    by_cases h1 : key a = key b
    · rw [if_pos h1, find_cons, find_cons, ← h1]
      by_cases h : key a = k
      · rw [if_pos h, if_pos h.symm]
      · rw [if_neg h, if_neg (Ne.symm h), if_neg h]
    · rw [if_neg h1]
      by_cases h2 : (key a).toNat < (key b).toNat
      · rw [if_pos h2, find_cons]
        by_cases h : key a = k
        · rw [if_pos h, if_pos h.symm]
        · rw [if_neg h, if_neg (Ne.symm h)]
      · rw [if_neg h2, find_cons, find_cons, ih]
        by_cases h : k = key a
        · rw [if_pos h, if_pos h, if_neg (by rw [h]; exact Ne.symm h1)]
        · rw [if_neg h, if_neg h]

theorem mem_tabPut {a x : α} {t : List α} (h : x ∈ tabPut key a t) : x = a ∨ x ∈ t := by
  induction t with
  | nil => simpa [tabPut] using h
  | cons b bs ih =>
    unfold tabPut at h
    split at h
    · rcases List.mem_cons.mp h with h | h <;> simp [h]
    · split at h
      · rcases List.mem_cons.mp h with h | h <;> simp [h]
      · rcases List.mem_cons.mp h with h | h
        · simp [h]
        · rcases ih h with h | h <;> simp [h]

/-- The canonical form is kept by every write. -/
theorem tabPut_wf {a : α} {t : List α} (h : tabWf key t) : tabWf key (tabPut key a t) := by
  induction t with
  | nil => simp [tabPut, tabWf]
  | cons b bs ih =>
    have hb := List.pairwise_cons.mp h
    unfold tabPut
    split
    · rename_i e
      exact List.pairwise_cons.mpr ⟨fun x hx => by rw [e]; exact hb.1 x hx, hb.2⟩
    · split
      · rename_i l
        refine List.pairwise_cons.mpr ⟨fun x hx => ?_, h⟩
        rcases List.mem_cons.mp hx with rfl | hx
        · exact l
        · exact Nat.lt_trans l (hb.1 x hx)
      · rename_i n l
        refine List.pairwise_cons.mpr ⟨fun x hx => ?_, ih hb.2⟩
        rcases mem_tabPut hx with rfl | hx
        · have : (key x).toNat ≠ (key b).toNat := fun e => n (BitVec.eq_of_toNat_eq e)
          omega
        · exact hb.1 x hx

theorem tabPut_length_le (a : α) (t : List α) : (tabPut key a t).length ≤ t.length + 1 := by
  induction t with
  | nil => simp [tabPut]
  | cons b bs ih =>
    unfold tabPut
    split
    · simp
    · split <;> simp_all

/-- In a canonical table a write at a key that is there replaces its entry. -/
theorem tabPut_length_of_found {a : α} {t : List α} (w : tabWf key t) (h : (tabFind key (key a) t).isSome) :
    (tabPut key a t).length = t.length := by
  induction t with
  | nil => simp [tabFind] at h
  | cons b bs ih =>
    have hb := List.pairwise_cons.mp w
    unfold tabPut
    split
    · simp
    · rename_i n
      have h' : (tabFind key (key a) bs).isSome := by
        simpa [tabFind, List.find?_cons, Ne.symm n] using h
      split
      · obtain ⟨x, hx⟩ := Option.isSome_iff_exists.mp h'
        rename_i l
        have := hb.1 x (tabFind_mem hx)
        rw [tabFind_key hx] at this
        omega
      · simp [ih hb.2 h']

theorem lastN_length (n : Nat) (l : List α) : (lastN n l).length ≤ n := by
  simp only [lastN, List.length_drop]
  omega

end Tables

/-! ## The places of GSTAT and SLOT -/

theorem slotIndex_injective {a b : Slot} (h : slotIndex a = slotIndex b) : a = b := by
  obtain ⟨at', av⟩ := a
  obtain ⟨bt, bv⟩ := b
  have h' := congrArg Fin.val h
  simp only [slotIndex] at h'
  have ha := av.bit.toNat_lt
  have hb := bv.bit.toNat_lt
  have ht : at'.toNat = bt.toNat := by omega
  have hv : av.bit.toNat = bv.bit.toNat := by omega
  have hv' : av = bv := by cases av <;> cases bv <;> simp_all [Ver.bit]
  rw [BitVec.eq_of_toNat_eq ht, hv']

end Sys2Proof.Machine
end

