-- ==== Sys2Proof/Laws/Tmc.lean ====
section
/-! SUPPORT. What the operations on the TMC instance of a slot can do (44_tmc), said once each. -/

namespace Sys2Proof.Machine

open Sys2Proof

theorem inst_of_holds {s : State} {slot : Slot} {o : OdaSlot} {t : TmcInst} (h : Holds s slot o t) :
    s.st.inst? slot = some t := by
  simp [Station.inst?, Station.handler?, h.1, h.2]

/-- A slot holds the TMC instance that `inst?` finds. -/
theorem holds_of_inst {s : State} {slot : Slot} {t : TmcInst} (h : s.st.inst? slot = some t) : ∃ o, Holds s slot o t := by
  unfold Station.inst? Station.handler? at h
  cases ho : s.st.slot[slotIndex slot] with
  | none => simp [ho] at h
  | some o =>
    simp only [ho] at h
    split at h
    · cases h; exact ⟨o, ho, ‹_›⟩
    · cases h

/-- A slot holds an instance exactly when `inst?` finds one. -/
theorem inst_none_iff {s : State} {slot : Slot} : s.st.inst? slot = none ↔ ∀ o t, ¬ Holds s slot o t := by
  constructor
  · intro hn o t h
    rw [inst_of_holds h] at hn
    cases hn
  · intro hn
    by_contra hc
    obtain ⟨t, ht⟩ := Option.ne_none_iff_exists'.mp hc
    obtain ⟨o, h⟩ := holds_of_inst ht
    exact hn o t h

/-- Writing back the instance that is there changes nothing. -/
theorem withInstance_self {s : State} {slot : Slot} {o : OdaSlot} {t : TmcInst} (h : Holds s slot o t) :
    withInstance s slot o t = s := by
  have ho : (some { o with handler := some (.tmc t) } : Option OdaSlot) = s.st.slot[slotIndex slot] := by
    rw [h.1, ← h.2]
  have hv : s.st.slot.set (slotIndex slot) (some { o with handler := some (.tmc t) }) = s.st.slot := by
    rw [ho]
    exact Vector.set_getElem_self _
  unfold withInstance
  rw [hv]

/-- A form on a slot that holds an instance: the instance is written back, and a completed message is emitted. -/
theorem withInst_holds {s : State} {slot : Slot} {o : OdaSlot} {t : TmcInst} (h : Holds s slot o t) (bt : BitTime)
    (f : TmcInst → TmcInst × Option TmcMsg) :
    withInst slot bt f s =
      match (f t).2 with
      | some m => emitMsg m bt (withInstance s slot o (f t).1)
      | none => withInstance s slot o (f t).1 := by
  have hs : s.updSt (Station.setInst slot (f t).1) = withInstance s slot o (f t).1 := by
    simp only [State.updSt, Station.setInst, Station.setHandler, h.1, withInstance]
  simp only [withInst, inst_of_holds h, hs] <;> cases (f t).2 <;> rfl

theorem withInst_empty {s : State} {slot : Slot} (h : s.st.inst? slot = none) (bt : BitTime)
    (f : TmcInst → TmcInst × Option TmcMsg) : withInst slot bt f s = s := by
  simp [withInst, h]

theorem updInst_holds {s : State} {slot : Slot} {o : OdaSlot} {t : TmcInst} (h : Holds s slot o t)
    (f : TmcInst → TmcInst) : updInst slot f s = withInstance s slot o (f t) :=
  withInst_holds h 0 _

theorem updInst_empty {s : State} {slot : Slot} (h : s.st.inst? slot = none) (f : TmcInst → TmcInst) :
    updInst slot f s = s :=
  withInst_empty h 0 _

theorem updMsg_holds {s : State} {slot : Slot} {o : OdaSlot} {t : TmcInst} {m : TmcMsg} (h : Holds s slot o t)
    (hm : t.msg = some m) (f : TmcMsg → TmcMsg) :
    updMsg slot f s = withInstance s slot o { t with msg := some (f m) } := by
  simp only [updMsg, updInst_holds h, hm, Option.map_some]

/-- A row that leaves the message as it is leaves the state as it is, whatever the slot holds. -/
theorem updInst_id {slot : Slot} (f : TmcInst → TmcInst) (hf : ∀ t, f t = t) (s : State) : updInst slot f s = s := by
  cases hi : s.st.inst? slot with
  | none => exact updInst_empty hi f
  | some t =>
    obtain ⟨o, h⟩ := holds_of_inst hi
    rw [updInst_holds h, hf, withInstance_self h]

theorem updMsg_id {slot : Slot} (f : TmcMsg → TmcMsg) (hf : ∀ m, f m = m) (s : State) : updMsg slot f s = s :=
  updInst_id _ (fun t => by rw [funext hf]; simp) s

/-- EMIT appends the resolved message to TMCOUT (44_tmc R139). -/
theorem emitMsg_eq (m : TmcMsg) (bt : BitTime) (s : State) :
    emitMsg m bt s = { s with tmcout := s.tmcout ++ [⟨bt, resolve s.params s.lt m⟩] } := rfl

/-- A continuation passes the tests of 44_tmc R131 in one of two ways. -/
theorem contAccepted_iff {ci : BitVec 3} {sg : Bool} {gsi : BitVec 2} {t : TmcInst} :
    contAccepted ci sg gsi t = true ↔
      t.ci = some ci ∧ ((sg = true ∧ t.next = some 1) ∨
        (sg = false ∧ ∃ n total, t.next = some n ∧ t.total = some total ∧ (n : Int) = total - 1 - gsi.toNat)) := by
  unfold contAccepted contSeq
  cases sg <;> cases hn : t.next <;> cases ht : t.total <;> simp <;> omega

/-! ## The handler of a slot (43_group_types R116) -/

/-- RECV on a slot without a handler does nothing (43_group_types R117). -/
theorem recv_none {slot : Slot} {g : Group} {s : State} (h : s.st.handler? slot = none) : recv slot g s = s := by
  simp [recv, h]

/-- RECV on a TMC instance is TMC's. -/
theorem recv_tmc {slot : Slot} {o : OdaSlot} {t : TmcInst} {g : Group} {s : State} (h : Holds s slot o t) :
    recv slot g s = recvTmc slot g s := by
  simp [recv, Station.handler?, h.1, h.2]

/-- TMC's RECV on a slot without a TMC instance does nothing. -/
theorem recvTmc_empty {slot : Slot} {g : Group} {s : State} (h : s.st.inst? slot = none) : recvTmc slot g s = s := by
  have form (i : Instr) (hi : i.slot? = some slot) : runTmc i s = s := by
    cases i <;> cases hi <;>
      simp only [runTmc, tmcTuning, tmcSingle, tmcFirst, tmcSubsequent, updInst_empty h, withInst_empty h]
  unfold recvTmc decodeTmc tmcForm
  split
  · rename_i i hd
    refine form i ?_
    repeat' split at hd
    all_goals cases hd <;> rfl
  · rfl

/-- RECV on a platform's handler replaces its instance by what its RECV gives, and does nothing else. -/
theorem recv_platform {slot : Slot} {o : OdaSlot} {n : Nat} {state : Config.HandlerState} {g : Group} {s : State}
    (h : s.st.slot[slotIndex slot] = some o) (hh : o.handler = some (.platform n state)) :
    recv slot g s = s.updSt fun st =>
      { st with
        slot := st.slot.set (slotIndex slot)
          (some ⟨o.aid, some (.platform n
            (Config.handlerRecv n state (Slot.ofB1 g.values[1]) g.flags g.values g.bt))⟩) } := by
  simp [recv, recvPlatform, Station.handler?, Station.setHandler, State.updSt, h, hh]

/-- RECV is TMC's unless the slot holds a platform's handler. -/
theorem recv_eq_recvTmc {slot : Slot} {g : Group} {s : State}
    (h : ∀ n state, s.st.handler? slot ≠ some (.platform n state)) : recv slot g s = recvTmc slot g s := by
  unfold recv
  split
  · rfl
  · exact absurd ‹_› (h _ _)
  · rename_i hn
    exact (recvTmc_empty (by simp [Station.inst?, hn])).symm

end Sys2Proof.Machine
end

