-- ==== Sys2Proof/Laws/AlertC.lean ====
section
/-! SUPPORT. Bit strings, records and DRAIN (44_tmc R133 to R135): what each can do, said once. -/

namespace Sys2Proof

@[simp] theorem bitsMsb_length (n x : Nat) : (bitsMsb n x).length = n := by
  induction n with
  | zero => rfl
  | succ n ih => simp [bitsMsb, ih]

theorem bitsVal_lt (l : List Bool) : bitsVal l < 2 ^ l.length := by
  induction l with
  | nil => simp [bitsVal]
  | cons b bs ih =>
    have := b.toNat_lt
    simp only [bitsVal, List.length_cons, Nat.pow_succ]
    cases b <;> simp <;> omega

/-- QPeek reads back what QPush wrote. -/
theorem bitsVal_bitsMsb (n x : Nat) : bitsVal (bitsMsb n x) = x % 2 ^ n := by
  induction n with
  | zero => simp [bitsMsb, bitsVal, Nat.mod_one]
  | succ n ih =>
    have h : x % 2 ^ (n + 1) = x % 2 ^ n + 2 ^ n * (x / 2 ^ n % 2) := by
      rw [Nat.pow_succ, Nat.mod_mul]
    rw [bitsMsb, bitsVal, bitsMsb_length, ih, h, Nat.testBit_eq_decide_div_mod_eq, Nat.add_comm, Nat.mul_comm]
    rcases Nat.mod_two_eq_zero_or_one (x / 2 ^ n) with h | h <;> simp [h]

theorem labelSize_le (label : Nat) : labelSize label ≤ 16 := by
  unfold labelSize
  rcases lt_or_ge label 16 with h | h
  · interval_cases label <;> decide
  · rw [List.getD_eq_default _ _ (by simpa using h)]
    decide

/-- A complete record is there exactly when the queue holds all its bits. -/
theorem takeRecord_none {q : List Bool} :
    takeRecord q = none ↔ q.length < 4 ∨ q.length < 4 + labelSize (bitsVal (q.take 4)) := by
  unfold takeRecord
  split
  · dsimp only
    split <;> simp <;> omega
  · simp
    omega

theorem takeRecord_some {q rest : List Bool} {label val : Nat} (h : takeRecord q = some (label, val, rest)) :
    4 + labelSize label ≤ q.length ∧ label = bitsVal (q.take 4) ∧ val = bitsVal ((q.drop 4).take (labelSize label)) ∧
      rest = q.drop (4 + labelSize label) := by
  unfold takeRecord at h
  split at h
  · dsimp only at h
    split at h
    · cases h
      exact ⟨‹_›, rfl, rfl, rfl⟩
    · cases h
  · cases h

/-- A record at the head of a queue is the record there with anything after it. -/
theorem takeRecord_append {bits : List Bool} {label val : Nat} (h : takeRecord bits = some (label, val, []))
    (rest : List Bool) : takeRecord (bits ++ rest) = some (label, val, rest) := by
  obtain ⟨h1, h2, h3, h4⟩ := takeRecord_some h
  have hl : bits.length = 4 + labelSize label := by
    have := congrArg List.length h4
    simp at this
    omega
  have t4 : (bits ++ rest).take 4 = bits.take 4 := List.take_append_of_le_length (by omega)
  have d4 : (bits ++ rest).drop 4 = bits.drop 4 ++ rest := List.drop_append_of_le_length (by omega)
  unfold takeRecord
  simp only [t4, ← h2, d4]
  rw [if_pos (by simp; omega), if_pos (by simp; omega), List.take_append_of_le_length (by simp; omega), ← h3, ← hl,
    List.drop_left]

/-- The record decoder reads a label row. -/
theorem decodeRecord_ok {slot : Slot} {bits : List Bool} {i : Instr} (h : decodeRecord slot bits = .ok i) :
    ∃ label val, takeRecord bits = some (label, val, []) ∧ i = labelRow slot label val := by
  unfold decodeRecord at h
  split at h
  · cases h
  · cases h
    exact ⟨_, _, ‹_›, rfl⟩
  · cases h

namespace Machine

/-- A label row acts on the pending message as APPLY does. -/
theorem labelRow_exec (slot : Slot) (label val : Nat) (s : State) :
    exec (labelRow slot label val) s = .next (updMsg slot (applyLabel (labelRow slot label val)) s) := by
  unfold labelRow
  split <;> rfl

/-- More fuel than bits changes nothing. -/
theorem drainFrom_fuel (slot : Slot) :
    ∀ (n k : Nat) (q : List Bool) (m : TmcMsg), q.length ≤ n → q.length ≤ k → drainFrom slot n q m = drainFrom slot k q m := by
  intro n
  induction n with
  | zero =>
    intro k q m hn _
    have : q = [] := List.length_eq_zero_iff.mp (by omega)
    subst this
    cases k <;> rfl
  | succ n ih =>
    intro k q m hn hk
    cases k with
    | zero =>
      have : q = [] := List.length_eq_zero_iff.mp (by omega)
      subst this
      rfl
    | succ k =>
      unfold drainFrom
      cases ht : takeRecord q with
      | none => rfl
      | some r =>
        obtain ⟨label, val, rest⟩ := r
        obtain ⟨h1, -, -, h4⟩ := takeRecord_some ht
        have : rest.length + 4 ≤ q.length := by rw [h4, List.length_drop]; omega
        exact ih k rest _ (by omega) (by omega)

/-- DRAIN with a complete record at the head. -/
theorem drain_record {slot : Slot} {q rest : List Bool} {label val : Nat}
    (h : takeRecord q = some (label, val, rest)) (m : TmcMsg) :
    drain slot q m = drain slot rest (applyLabel (labelRow slot label val) m) := by
  obtain ⟨h1, -, -, h4⟩ := takeRecord_some h
  have hl : rest.length + 4 ≤ q.length := by rw [h4, List.length_drop]; omega
  unfold drain
  rw [drainFrom_fuel slot q.length (q.length + 1) q m (by omega) (by omega)]
  simp only [drainFrom, h]
  exact drainFrom_fuel slot _ _ _ _ (by omega) (by omega)

/-- DRAIN without a complete record at the head. -/
theorem drain_stop {slot : Slot} {q : List Bool} (h : takeRecord q = none) (m : TmcMsg) : drain slot q m = (m, q) := by
  unfold drain
  cases q with
  | nil => rfl
  | cons b bs => simp only [List.length_cons, drainFrom, h]

/-- A property of message and queue that each complete record keeps holds after DRAIN, with no complete record left. -/
theorem drain_induction {P : TmcMsg → List Bool → Prop} {slot : Slot}
    (step : ∀ label val m q rest, takeRecord q = some (label, val, rest) → P m q →
      P (applyLabel (labelRow slot label val) m) rest) :
    ∀ (q : List Bool) (m : TmcMsg), P m q → P (drain slot q m).1 (drain slot q m).2 ∧
      takeRecord (drain slot q m).2 = none := by
  intro q
  induction hn : q.length using Nat.strong_induction_on generalizing q with
  | _ n ih =>
    intro m hp
    cases ht : takeRecord q with
    | none => rw [drain_stop ht]; exact ⟨hp, ht⟩
    | some r =>
      obtain ⟨label, val, rest⟩ := r
      rw [drain_record ht]
      obtain ⟨h1, -, -, h4⟩ := takeRecord_some ht
      have hl : rest.length + 4 ≤ q.length := by rw [h4, List.length_drop]; omega
      exact ih rest.length (by omega) rest rfl _ (step _ _ _ _ _ ht hp)

/-- What DRAIN leaves is an end of the queue, without a complete record (44_tmc R134). -/
theorem drain_rest (slot : Slot) (q : List Bool) (m : TmcMsg) :
    (drain slot q m).2 <:+ q ∧ takeRecord (drain slot q m).2 = none := by
  refine drain_induction (P := fun _ r => r <:+ q) ?_ q m (List.suffix_refl q)
  intro label val m' r rest ht hr
  obtain ⟨-, -, -, h4⟩ := takeRecord_some ht
  rw [h4]
  exact (List.drop_suffix _ _).trans hr

theorem length_of_incomplete {q : List Bool} (h : takeRecord q = none) : q.length ≤ 19 := by
  have := labelSize_le (bitsVal (q.take 4))
  rcases takeRecord_none.mp h with h | h <;> omega

theorem pushFree_length (q : List Bool) (a : BitVec 12) (b : Word) : (pushFree q a b).length = q.length + 28 := by
  simp [pushFree]

end Machine

end Sys2Proof
end

