-- ==== Sys2Proof/Laws/Gdec.lean ====
section
/-! SUPPORT. What PI_STEP, the gate and PROCESS can do (42_group_dispatch R99 to R102), one lemma per case. -/

namespace Sys2Proof.Machine

open Sys2Proof

theorem piStep_first {pi : Word} {bt : BitTime} {s : State} (hpi : pi ≠ 0) (h : s.st.pi = 0) :
    piStep pi bt s = (trackPi pi bt s).setSuppress false := by
  have hc : piCases pi bt s = trackPi pi bt s := if_pos h
  unfold piStep
  rw [hc]
  exact if_pos ⟨hpi, rfl⟩

theorem piStep_tracked {bt : BitTime} {s : State} (h : s.st.pi ≠ 0) :
    piStep s.st.pi bt s = ((s.updSt fun st => { st with lastSeen := bt }).setPimis 0).setSuppress false := by
  have hc : piCases s.st.pi bt s = (s.updSt fun st => { st with lastSeen := bt }).setPimis 0 := by
    unfold piCases
    rw [if_neg h, if_pos rfl]
  unfold piStep
  rw [hc]
  exact if_pos ⟨h, rfl⟩

theorem piStep_tolerated {pi : Word} {bt : BitTime} {s : State} (h : s.st.pi ≠ 0) (hd : pi ≠ s.st.pi)
    (ht : s.pimis + 1 ≤ s.params.piTolerance) : piStep pi bt s = s.setPimis (s.pimis + 1) := by
  have hc : piCases pi bt s = s.setPimis (s.pimis + 1) := by
    unfold piCases
    rw [if_neg h, if_neg hd, if_neg (by omega)]
  unfold piStep
  rw [hc]
  exact if_neg fun hx => by simp at hx

theorem piStep_replaced {pi : Word} {bt : BitTime} {s : State} (hpi : pi ≠ 0) (h : s.st.pi ≠ 0) (hd : pi ≠ s.st.pi)
    (ht : s.params.piTolerance < s.pimis + 1) :
    piStep pi bt s =
      (trackPi pi bt ((s.emitEvent ⟨bt, .lost s.st.pi⟩).updSt fun _ => Station.fresh)).setSuppress false := by
  have hc : piCases pi bt s = trackPi pi bt ((s.emitEvent ⟨bt, .lost s.st.pi⟩).updSt fun _ => Station.fresh) := by
    unfold piCases
    rw [if_neg h, if_neg hd, if_pos ht]
  unfold piStep
  rw [hc]
  exact if_pos ⟨hpi, rfl⟩

/-- The four cases of PI_STEP, and no other. -/
theorem piStep_cases {pi : Word} {bt : BitTime} {s : State} (hpi : pi ≠ 0) :
    (s.st.pi = 0 ∧ piStep pi bt s = (trackPi pi bt s).setSuppress false) ∨
    (s.st.pi ≠ 0 ∧ pi = s.st.pi ∧
      piStep pi bt s = ((s.updSt fun st => { st with lastSeen := bt }).setPimis 0).setSuppress false) ∨
    (s.st.pi ≠ 0 ∧ pi ≠ s.st.pi ∧ s.pimis + 1 ≤ s.params.piTolerance ∧ piStep pi bt s = s.setPimis (s.pimis + 1)) ∨
    (s.st.pi ≠ 0 ∧ pi ≠ s.st.pi ∧ s.params.piTolerance < s.pimis + 1 ∧
      piStep pi bt s =
        (trackPi pi bt ((s.emitEvent ⟨bt, .lost s.st.pi⟩).updSt fun _ => Station.fresh)).setSuppress false) := by
  by_cases h : s.st.pi = 0
  · exact .inl ⟨h, piStep_first hpi h⟩
  · by_cases hd : pi = s.st.pi
    · exact .inr (.inl ⟨h, hd, hd ▸ piStep_tracked h⟩)
    · by_cases ht : s.pimis + 1 ≤ s.params.piTolerance
      · exact .inr (.inr (.inl ⟨h, hd, ht, piStep_tolerated h hd ht⟩))
      · exact .inr (.inr (.inr ⟨h, hd, by omega, piStep_replaced hpi h hd (by omega)⟩))

theorem piStage_without_pi {g : Group} {s : State} (h : groupPiv g = false) : piStage g s = s := by
  simp [piStage, h]

theorem piStage_with_pi {g : Group} {s : State} (h : groupPiv g = true) : piStage g s = piStep g.values[0] g.bt s := by
  simp [piStage, h]

theorem groupPiv_pi {g : Group} (h : groupPiv g = true) : g.flags[0] = true ∧ g.values[0] ≠ 0 := by
  simpa [groupPiv] using h

/-- PROCESS stops at the gate, or counts an unknown group, or runs the decoded row. -/
theorem process_cases (g : Group) (s : State) :
    (gateShut g (piStage g s) = true ∧ process g s = piStage g s) ∨
    (gateShut g (piStage g s) = false ∧ g.flags[1] = false ∧ process g s = countUnknown (piStage g s)) ∨
    (gateShut g (piStage g s) = false ∧ g.flags[1] = true ∧
      process g s = runGroup (groupRow (Slot.ofB1 g.values[1]) g.fields) (piStage g s)) := by
  unfold process
  cases hg : gateShut g (piStage g s)
  · cases hf : g.flags[1] <;> simp [hg, decodeAndRun, decodeGroup, hf]
  · simp [hg]

/-- A group-type row run by PROCESS is the row's own meaning. -/
theorem runGroup_exec (slot : Slot) (f : GroupFields) (s : State) :
    exec (groupRow slot f) s = .next (runGroup (groupRow slot f) s) := by
  unfold groupRow
  split <;> rfl

end Sys2Proof.Machine
end

