-- ==== Sys2Proof/Laws/Bsync.lean ====
section
/-! SUPPORT. What BIT and the operations under it can do (41_synchronizer R87 to R92), one lemma per case. -/

namespace Sys2Proof.Machine

open Sys2Proof

theorem execBit_runs {b : Bool} {s : State} (h : s.halted = false) :
    exec (.bit b) s = .next ((bitStep b s).setReply .done) := unlessHalted_runs h

theorem bitStep_unsynced {b : Bool} {s : State} (h : s.sync = .unsynced) : bitStep b s = acquire (s.shiftIn b) := by
  simp only [bitStep, State.shiftIn_sync, h]

theorem bitStep_synced {b : Bool} {s : State} (h : s.sync = .synced) : bitStep b s = frame (s.shiftIn b) := by
  simp only [bitStep, State.shiftIn_sync, h]

/-! ## Acquisition -/

theorem acquire_idle {s : State} (h : s.bt.toNat < 26 ∨ pos (syndrome s.sr) = none) : acquire s = s := by
  unfold acquire
  split
  · rfl
  · rename_i hg
    rcases h with h | h
    · exact absurd h hg
    · rw [h]

theorem acquire_match {s : State} {p : Fin 4} (hg : 26 ≤ s.bt.toNat) (h : pos (syndrome s.sr) = some p) :
    acquire s = recordMatch p s := by
  unfold acquire
  rw [if_neg (by simp only [Config.acqGuard]; omega), h]

theorem recordMatch_cases (p : Fin 4) (s : State) :
    ((purgeAppend s.bt s.hist[bucketKey s.bt p]).length ≤ 2 ∧
      recordMatch p s = s.setHist (s.hist.set (bucketKey s.bt p) (purgeAppend s.bt s.hist[bucketKey s.bt p]))) ∨
    (2 < (purgeAppend s.bt s.hist[bucketKey s.bt p]).length ∧
      recordMatch p s = declare p s) := by
  unfold recordMatch
  by_cases h : 2 < (purgeAppend s.bt s.hist[bucketKey s.bt p]).length
  · exact .inr ⟨h, if_pos h⟩
  · exact .inl ⟨by omega, if_neg h⟩

/-- The bucket key is the non-negative remainder of 41_synchronizer R88. -/
theorem bucketKey_val (bt : BitTime) (p : Fin 4) :
    ((bucketKey bt p).val : Int) = ((bt.toNat : Int) - 26 * p.val) % 104 := by
  have := p.isLt
  simp only [bucketKey]
  omega

/-! ## Framing -/

theorem frame_inside {s : State} (h : s.bcnt < 25) : frame s = s.setBcnt (s.bcnt + 1) := if_pos (by omega)

theorem frame_block {s : State} (h : 25 ≤ s.bcnt) (hc : s.cur ≠ 3) :
    frame s = (frameBlock s).setCur (s.cur + 1) := by
  unfold frame
  dsimp only
  rw [if_neg (by omega), if_neg hc]

theorem frame_group {s : State} (h : 25 ≤ s.bcnt) (hc : s.cur = 3) :
    frame s = (complete (frameBlock s)).setCur 0 := by
  unfold frame
  dsimp only
  rw [if_neg (by omega), if_pos hc, hc]
  rfl

theorem complete_kept {s : State}
    (h : badgAfter (completedGroup s) (process (completedGroup s) (s.emitGroup (completedGroup s))).badg < 10) :
    complete s =
      clearFlags ((process (completedGroup s) (s.emitGroup (completedGroup s))).setBadg
        (badgAfter (completedGroup s) (process (completedGroup s) (s.emitGroup (completedGroup s))).badg)) := by
  unfold complete
  dsimp only
  rw [if_neg]
  simp only [Config.syncLossGroups, State.setBadg_badg]
  omega

theorem complete_lost {s : State}
    (h : 10 ≤ badgAfter (completedGroup s) (process (completedGroup s) (s.emitGroup (completedGroup s))).badg) :
    complete s =
      clearFlags (lose ((process (completedGroup s) (s.emitGroup (completedGroup s))).setBadg
        (badgAfter (completedGroup s) (process (completedGroup s) (s.emitGroup (completedGroup s))).badg))) := by
  unfold complete
  dsimp only
  rw [if_pos]
  exact h

end Sys2Proof.Machine
end

