-- ==== Sys2Proof/Laws/Frame.lean ====
section
/-! SUPPORT. The frame of the group decoder: what any row of its tables, and PROCESS as a whole, can change
(42_group_dispatch R99), and that EVENTS and TMCOUT only grow (10_state R42). -/

namespace Sys2Proof.Machine

open Sys2Proof

/-- `t` differs from `s` in what GDEC writes alone, and the streams EVENTS and TMCOUT only grew. -/
structure GdecStep (s t : State) : Prop where
  frame : t = { s with
    st := t.st, suppress := t.suppress, pimis := t.pimis, paging := t.paging, events := t.events, tmcout := t.tmcout }
  events : s.events <+: t.events
  tmcout : s.tmcout <+: t.tmcout

namespace GdecStep

theorem refl (s : State) : GdecStep s s := ⟨rfl, List.prefix_refl _, List.prefix_refl _⟩

theorem trans {s t u : State} (h : GdecStep s t) (k : GdecStep t u) : GdecStep s u :=
  ⟨by rw [k.frame, h.frame], h.events.trans k.events, h.tmcout.trans k.tmcout⟩

theorem updSt (f : Station → Station) (s : State) : GdecStep s (s.updSt f) :=
  ⟨rfl, List.prefix_refl _, List.prefix_refl _⟩

theorem setPimis (v : Nat) (s : State) : GdecStep s (s.setPimis v) := ⟨rfl, List.prefix_refl _, List.prefix_refl _⟩

theorem setSuppress (v : Bool) (s : State) : GdecStep s (s.setSuppress v) :=
  ⟨rfl, List.prefix_refl _, List.prefix_refl _⟩

theorem setPaging (v : Config.PagingState) (s : State) : GdecStep s (s.setPaging v) :=
  ⟨rfl, List.prefix_refl _, List.prefix_refl _⟩

theorem emitEvent (e : Event) (s : State) : GdecStep s (s.emitEvent e) :=
  ⟨rfl, List.prefix_append _ _, List.prefix_refl _⟩

theorem emitTmc (o : TmcOut) (s : State) : GdecStep s (s.emitTmc o) :=
  ⟨rfl, List.prefix_refl _, List.prefix_append _ _⟩

/-! ## TMC -/

theorem withInst (slot : Slot) (bt : BitTime) (f : TmcInst → TmcInst × Option TmcMsg) (s : State) :
    GdecStep s (withInst slot bt f s) := by
  unfold Machine.withInst
  split
  · exact refl s
  · dsimp only
    split
    · exact (updSt _ s).trans (emitTmc _ _)
    · exact updSt _ s

theorem updInst (slot : Slot) (f : TmcInst → TmcInst) (s : State) : GdecStep s (updInst slot f s) := withInst slot 0 _ s

theorem recvTmc (slot : Slot) (g : Group) (s : State) : GdecStep s (recvTmc slot g s) := by
  unfold Machine.recvTmc
  split
  · unfold runTmc
    split
    · exact updInst _ _ s
    · exact withInst _ _ _ s
    · exact updInst _ _ s
    · exact withInst _ _ _ s
    · exact refl s
  · exact refl s

theorem recv (slot : Slot) (g : Group) (s : State) : GdecStep s (recv slot g s) := by
  unfold Machine.recv
  split
  · exact recvTmc slot g s
  · exact updSt _ s
  · exact refl s

/-! ## Other networks -/

theorem updOn (pi : Word) (f : OtherNetwork → OtherNetwork) (s : State) : GdecStep s (updOn pi f s) := by
  unfold Machine.updOn
  split
  · exact refl s
  · exact updSt _ s

theorem runEon (i : Instr) (s : State) : GdecStep s (runEon i s) := by
  unfold Machine.runEon
  split
  all_goals first | exact updOn _ _ s | exact refl s

theorem eon14A (g : GroupFields) (s : State) : GdecStep s (eon14A g s) := by
  unfold Machine.eon14A
  split
  · split
    · exact refl s
    · dsimp only
      split
      · exact (updOn _ _ s).trans (runEon _ _)
      · exact updOn _ _ s
  · exact refl s

theorem taEvents (old : Option Bool) (ta : Bool) (g : GroupFields) (s : State) : GdecStep s (taEvents old ta g s) := by
  unfold Machine.taEvents
  split
  · exact emitEvent _ s
  · split
    · exact emitEvent _ s
    · exact refl s

theorem eon14B (g : GroupFields) (s : State) : GdecStep s (eon14B g s) := by
  unfold Machine.eon14B
  split
  · split
    · exact refl s
    · exact (updOn _ _ s).trans (taEvents _ _ _ _)
  · exact refl s

/-! ## Group types -/

theorem commonFields (slot : Slot) (g : GroupFields) (s : State) : GdecStep s (commonFields slot g s) := updSt _ s

theorem type0 (g : GroupFields) (s : State) : GdecStep s (type0 g s) := by
  unfold Machine.type0
  dsimp only
  split
  · exact (updSt _ s).trans (updSt _ _)
  · exact updSt _ s

theorem type0Af (g : GroupFields) (s : State) : GdecStep s (type0Af g s) := by
  unfold Machine.type0Af
  split
  · exact updSt _ s
  · exact refl s

theorem slowLabelling (g : GroupFields) (s : State) : GdecStep s (slowLabelling g s) := by
  unfold Machine.slowLabelling
  dsimp only
  split
  · split
    · split
      · exact (updSt _ s).trans ((updSt _ _).trans ((updSt _ _).trans (updSt _ _)))
      · exact (updSt _ s).trans ((updSt _ _).trans (updSt _ _))
    · split
      · exact (updSt _ s).trans ((updSt _ _).trans (updSt _ _))
      · exact (updSt _ s).trans (updSt _ _)
  · split
    · exact (updSt _ s).trans (updSt _ _)
    · exact updSt _ s

theorem radiotext (g : GroupFields) (s : State) : GdecStep s (radiotext g s) := updSt _ s

theorem oda3A (g : GroupFields) (s : State) : GdecStep s (oda3A g s) := by
  unfold Machine.oda3A
  split
  · exact refl s
  · dsimp only
    split
    · exact (updSt _ s).trans (recv _ _ _)
    · exact updSt _ s

theorem clockTime (g : GroupFields) (s : State) : GdecStep s (clockTime g s) := by
  unfold Machine.clockTime
  split
  · split
    · exact refl s
    · exact (updSt _ s).trans (emitEvent _ _)
  · exact refl s

theorem odaForward (slot : Slot) (g : GroupFields) (s : State) : GdecStep s (odaForward slot g s) := recv _ _ s

theorem pagingOrOda (g : GroupFields) (s : State) : GdecStep s (pagingOrOda g s) := by
  unfold Machine.pagingOrOda
  split
  · exact setPaging _ s
  · exact odaForward _ _ s

theorem tuning15B (g : GroupFields) (s : State) : GdecStep s (tuning15B g s) := by
  unfold Machine.tuning15B
  dsimp only
  split
  · exact (updSt _ s).trans (updSt _ _)
  · exact updSt _ s

theorem groupRow (slot : Slot) (f : GroupFields) (s : State) : GdecStep s (runGroup (groupRow slot f) s) := by
  unfold Sys2Proof.groupRow
  split
  all_goals
    first
    | exact commonFields _ _ s
    | exact (commonFields _ _ s).trans ((type0 _ _).trans (type0Af _ _))
    | exact (commonFields _ _ s).trans (type0 _ _)
    | exact (commonFields _ _ s).trans (slowLabelling _ _)
    | exact (commonFields _ _ s).trans (radiotext _ _)
    | exact (commonFields _ _ s).trans (oda3A _ _)
    | exact (commonFields _ _ s).trans (clockTime _ _)
    | exact (commonFields _ _ s).trans (odaForward _ _ _)
    | exact (commonFields _ _ s).trans (pagingOrOda _ _)
    | exact (commonFields _ _ s).trans (eon14A _ _)
    | exact (commonFields _ _ s).trans (eon14B _ _)
    | exact (commonFields _ _ s).trans (tuning15B _ _)

/-! ## PROCESS -/

theorem trackPi (pi : Word) (bt : BitTime) (s : State) : GdecStep s (trackPi pi bt s) :=
  (updSt _ s).trans ((setPimis _ _).trans (emitEvent _ _))

theorem piStage (g : Group) (s : State) : GdecStep s (piStage g s) := by
  cases h : groupPiv g with
  | false => rw [piStage_without_pi h]; exact refl s
  | true =>
    rw [piStage_with_pi h]
    rcases piStep_cases (bt := g.bt) (s := s) (groupPiv_pi h).2 with ⟨-, e⟩ | ⟨-, -, e⟩ | ⟨-, -, -, e⟩ | ⟨-, -, -, e⟩ <;> rw [e]
    · exact (trackPi _ _ s).trans (setSuppress _ _)
    · exact (updSt _ s).trans ((setPimis _ _).trans (setSuppress _ _))
    · exact setPimis _ s
    · exact (emitEvent _ s).trans ((updSt _ _).trans ((trackPi _ _ _).trans (setSuppress _ _)))

theorem process (g : Group) (s : State) : GdecStep s (process g s) := by
  rcases process_cases g s with ⟨-, e⟩ | ⟨-, -, e⟩ | ⟨-, -, e⟩ <;> rw [e]
  · exact piStage g s
  · exact (piStage g s).trans (updSt _ _)
  · exact (piStage g s).trans (groupRow _ _ _)

/-! ## What a step of GDEC leaves -/

variable {s t : State} (h : GdecStep s t)
include h

theorem bsync : SameBsync s t := by rw [h.frame]; exact ⟨rfl, rfl, rfl, rfl, rfl, rfl, rfl, rfl, rfl, rfl, rfl⟩
theorem halted : t.halted = s.halted := by rw [h.frame]
theorem fault : t.fault = s.fault := by rw [h.frame]
theorem tunedFreq : t.tunedFreq = s.tunedFreq := by rw [h.frame]
theorem params : t.params = s.params := by rw [h.frame]
theorem lt : t.lt = s.lt := by rw [h.frame]
theorem port : t.port = s.port := by rw [h.frame]

end GdecStep

end Sys2Proof.Machine
end

