-- ==== Sys2Proof/Laws/Exec.lean ====
section
/-! SUPPORT. What one instruction and one step can do, said once: the inversion lemmas of `exec` and `step`. -/

namespace Sys2Proof.Machine

open Sys2Proof

/-- The next states of an instruction: RESET, BIT, EOS, GROUP_IN, a reply alone, a fault alone, or a row of the five inner
tables. -/
inductive ExecNext (i : Instr) (s t : State) : Prop
  | reset (hi : i = .reset) (ht : t = { s with toEngine := resetEngine s.toEngine, reply := .done })
  | bit (b : Bool) (hi : i = .bit b) (hh : s.halted = false) (ht : t = (bitStep b s).setReply .done)
  | eos (hi : i = .eos) (hh : s.halted = false) (ht : t = (endOfStream s).setReply .done)
  | groupIn (flags : Vector Bool 4) (values : Vector Word 4) (bt : BitTime) (hi : i = .groupIn flags values bt)
      (hh : s.halted = false) (ht : t = (process (Group.of flags values bt) s).setReply .done)
  | reply (hr : i ≠ .reset) (hb : ∀ b, i ≠ .bit b) (he : i ≠ .eos) (r : Reply) (ht : t = s.setReply r)
  | fault (hr : i ≠ .reset) (hb : ∀ b, i ≠ .bit b) (he : i ≠ .eos) (r : FaultReason) (ht : t = s.raise r)
  | row (hr : i ≠ .reset) (hb : ∀ b, i ≠ .bit b) (he : i ≠ .eos) (hc : ∀ f, encode i ≠ .command f) (ht : GdecStep s t)

theorem queryReturn_cases {α : Type} (wrap : α → Reply) (o : Option α) (s : State) :
    (∃ r, queryReturn wrap o s = s.setReply r) ∨ ∃ r, queryReturn wrap o s = s.raise r := by
  cases o with
  | none => exact .inr ⟨_, rfl⟩
  | some v => exact .inl ⟨_, rfl⟩

/-- A group-type row is a step of GDEC. -/
theorem groupRow_step {slot : Slot} {f : GroupFields} {s t : State}
    (h : exec (groupRow slot f) s = .next t) : GdecStep s t := by
  rw [runGroup_exec] at h
  cases h
  exact GdecStep.groupRow slot f s

/-- A command's instruction encodes as a command. -/
theorem encode_decodeCommand (f : Frame) : ∃ f', encode (decodeCommand f) = .command f' := by
  unfold decodeCommand
  split
  case h_8 => split <;> exact ⟨_, rfl⟩
  all_goals exact ⟨_, rfl⟩

theorem exec_next {i : Instr} {s t : State} (h : exec i s = .next t) : ExecNext i s t := by
  have row (hr : i ≠ .reset) (hb : ∀ b, i ≠ .bit b) (he : i ≠ .eos)
      (hc : ∀ f, encode i ≠ .command f) {u : State} (hu : GdecStep s u)
      (e : Host.Outcome.next u = (.next t : Host.Outcome State Fault Refusal)) : ExecNext i s t := by
    cases e
    exact .row hr hb he hc hu
  cases i
  case reset => cases h; exact .reset rfl rfl
  case bit b => obtain ⟨h1, h2⟩ := unlessHalted_next h; exact .bit b rfl h1 h2
  case eos => obtain ⟨h1, h2⟩ := unlessHalted_next h; exact .eos rfl h1 h2
  case groupIn f v bt => obtain ⟨h1, h2⟩ := unlessHalted_next h; exact .groupIn f v bt rfl h1 h2
  case snapshot => cases h; exact .reply (by simp) (by simp) (by simp) _ rfl
  case locOffset dir k e =>
    obtain ⟨-, h2⟩ := unlessHalted_next h
    exact .reply (by simp) (by simp) (by simp) _ h2
  case locEnclosing k e =>
    obtain ⟨-, h2⟩ := unlessHalted_next h
    rcases queryReturn_cases .key (getEnclosing s.lt k e) s with ⟨r, hr⟩ | ⟨r, hr⟩
    · exact .reply (by simp) (by simp) (by simp) r (h2.trans hr)
    · exact .fault (by simp) (by simp) (by simp) r (h2.trans hr)
  case locCompare n k e =>
    obtain ⟨-, h2⟩ := unlessHalted_next h
    rcases queryReturn_cases .order (compareKeys s.lt n k e) s with ⟨r, hr⟩ | ⟨r, hr⟩
    · exact .reply (by simp) (by simp) (by simp) r (h2.trans hr)
    · exact .fault (by simp) (by simp) (by simp) r (h2.trans hr)
  case reserved0 | reserved9 | reservedA | reservedB | reservedC | reservedD | reservedE | reservedF =>
    cases h; exact .fault (by simp) (by simp) (by simp) _ rfl
  all_goals
    first
    | exact row (by simp) (by simp) (by simp) (fun _ e => nomatch e) (GdecStep.updInst _ _ s) h
    | exact row (by simp) (by simp) (by simp) (fun _ e => nomatch e) (GdecStep.withInst _ _ _ s) h
    | exact row (by simp) (by simp) (by simp) (fun _ e => nomatch e) (GdecStep.updOn _ _ s) h
    | skip
  case group0A g => exact .row (by simp) (by simp) (by simp) (fun _ e => nomatch e) (groupRow_step (slot := ⟨0, .A⟩) (f := g) h)
  case group0B g => exact .row (by simp) (by simp) (by simp) (fun _ e => nomatch e) (groupRow_step (slot := ⟨0, .B⟩) (f := g) h)
  case group1A g => exact .row (by simp) (by simp) (by simp) (fun _ e => nomatch e) (groupRow_step (slot := ⟨1, .A⟩) (f := g) h)
  case group1B g => exact .row (by simp) (by simp) (by simp) (fun _ e => nomatch e) (groupRow_step (slot := ⟨1, .B⟩) (f := g) h)
  case group2A g => exact .row (by simp) (by simp) (by simp) (fun _ e => nomatch e) (groupRow_step (slot := ⟨2, .A⟩) (f := g) h)
  case group2B g => exact .row (by simp) (by simp) (by simp) (fun _ e => nomatch e) (groupRow_step (slot := ⟨2, .B⟩) (f := g) h)
  case group3A g => exact .row (by simp) (by simp) (by simp) (fun _ e => nomatch e) (groupRow_step (slot := ⟨3, .A⟩) (f := g) h)
  case group3B g => exact .row (by simp) (by simp) (by simp) (fun _ e => nomatch e) (groupRow_step (slot := ⟨3, .B⟩) (f := g) h)
  case group4A g => exact .row (by simp) (by simp) (by simp) (fun _ e => nomatch e) (groupRow_step (slot := ⟨4, .A⟩) (f := g) h)
  case group4B g => exact .row (by simp) (by simp) (by simp) (fun _ e => nomatch e) (groupRow_step (slot := ⟨4, .B⟩) (f := g) h)
  case group5A g => exact .row (by simp) (by simp) (by simp) (fun _ e => nomatch e) (groupRow_step (slot := ⟨5, .A⟩) (f := g) h)
  case group5B g => exact .row (by simp) (by simp) (by simp) (fun _ e => nomatch e) (groupRow_step (slot := ⟨5, .B⟩) (f := g) h)
  case group6A g => exact .row (by simp) (by simp) (by simp) (fun _ e => nomatch e) (groupRow_step (slot := ⟨6, .A⟩) (f := g) h)
  case group6B g => exact .row (by simp) (by simp) (by simp) (fun _ e => nomatch e) (groupRow_step (slot := ⟨6, .B⟩) (f := g) h)
  case group7A g => exact .row (by simp) (by simp) (by simp) (fun _ e => nomatch e) (groupRow_step (slot := ⟨7, .A⟩) (f := g) h)
  case group7B g => exact .row (by simp) (by simp) (by simp) (fun _ e => nomatch e) (groupRow_step (slot := ⟨7, .B⟩) (f := g) h)
  case group8A g => exact .row (by simp) (by simp) (by simp) (fun _ e => nomatch e) (groupRow_step (slot := ⟨8, .A⟩) (f := g) h)
  case group8B g => exact .row (by simp) (by simp) (by simp) (fun _ e => nomatch e) (groupRow_step (slot := ⟨8, .B⟩) (f := g) h)
  case group9A g => exact .row (by simp) (by simp) (by simp) (fun _ e => nomatch e) (groupRow_step (slot := ⟨9, .A⟩) (f := g) h)
  case group9B g => exact .row (by simp) (by simp) (by simp) (fun _ e => nomatch e) (groupRow_step (slot := ⟨9, .B⟩) (f := g) h)
  case group10A g => exact .row (by simp) (by simp) (by simp) (fun _ e => nomatch e) (groupRow_step (slot := ⟨10, .A⟩) (f := g) h)
  case group10B g => exact .row (by simp) (by simp) (by simp) (fun _ e => nomatch e) (groupRow_step (slot := ⟨10, .B⟩) (f := g) h)
  case group11A g => exact .row (by simp) (by simp) (by simp) (fun _ e => nomatch e) (groupRow_step (slot := ⟨11, .A⟩) (f := g) h)
  case group11B g => exact .row (by simp) (by simp) (by simp) (fun _ e => nomatch e) (groupRow_step (slot := ⟨11, .B⟩) (f := g) h)
  case group12A g => exact .row (by simp) (by simp) (by simp) (fun _ e => nomatch e) (groupRow_step (slot := ⟨12, .A⟩) (f := g) h)
  case group12B g => exact .row (by simp) (by simp) (by simp) (fun _ e => nomatch e) (groupRow_step (slot := ⟨12, .B⟩) (f := g) h)
  case group13A g => exact .row (by simp) (by simp) (by simp) (fun _ e => nomatch e) (groupRow_step (slot := ⟨13, .A⟩) (f := g) h)
  case group13B g => exact .row (by simp) (by simp) (by simp) (fun _ e => nomatch e) (groupRow_step (slot := ⟨13, .B⟩) (f := g) h)
  case group14A g => exact .row (by simp) (by simp) (by simp) (fun _ e => nomatch e) (groupRow_step (slot := ⟨14, .A⟩) (f := g) h)
  case group14B g => exact .row (by simp) (by simp) (by simp) (fun _ e => nomatch e) (groupRow_step (slot := ⟨14, .B⟩) (f := g) h)
  case group15A g => exact .row (by simp) (by simp) (by simp) (fun _ e => nomatch e) (groupRow_step (slot := ⟨15, .A⟩) (f := g) h)
  case group15B g => exact .row (by simp) (by simp) (by simp) (fun _ e => nomatch e) (groupRow_step (slot := ⟨15, .B⟩) (f := g) h)

/-- What BIT leaves alone: everything outside BSYNC and GDEC. -/
theorem bitStep_frame (b : Bool) (s : State) :
    (bitStep b s).bt = s.bt + 1 ∧ (bitStep b s).halted = s.halted ∧ (bitStep b s).fault = s.fault ∧
      (bitStep b s).params = s.params ∧ (bitStep b s).lt = s.lt ∧ (bitStep b s).port = s.port ∧
      (bitStep b s).tunedFreq = s.tunedFreq ∧ s.events <+: (bitStep b s).events ∧ s.groups <+: (bitStep b s).groups ∧
      s.synclog <+: (bitStep b s).synclog ∧ s.tmcout <+: (bitStep b s).tmcout := by
  cases hs : s.sync with
  | unsynced =>
    rw [bitStep_unsynced hs]
    unfold acquire
    split
    · simp
    · split
      · simp
      · rename_i p _
        rcases recordMatch_cases p (s.shiftIn b) with ⟨-, e⟩ | ⟨-, e⟩ <;> rw [e]
        · simp
        · simp [declare]
  | synced =>
    rw [bitStep_synced hs]
    unfold frame
    split
    · simp
    · dsimp only
      split
      · have hp := GdecStep.process (completedGroup (frameBlock (s.shiftIn b)))
          ((frameBlock (s.shiftIn b)).emitGroup (completedGroup (frameBlock (s.shiftIn b))))
        unfold complete
        dsimp only
        revert hp
        generalize process (completedGroup (frameBlock (s.shiftIn b)))
          ((frameBlock (s.shiftIn b)).emitGroup (completedGroup (frameBlock (s.shiftIn b)))) = u
        intro hp
        obtain ⟨-, -, -, -, -, h6, -, -, -, h10, h11⟩ := hp.bsync
        have h6 : u.bt = s.bt + 1 := h6
        have h1 : u.halted = s.halted := hp.halted
        have h2 : u.fault = s.fault := hp.fault
        have h3 : u.params = s.params := hp.params
        have h4 : u.lt = s.lt := hp.lt
        have h5 : u.port = s.port := hp.port
        have h7 : u.tunedFreq = s.tunedFreq := hp.tunedFreq
        have h8 : s.events <+: u.events := hp.events
        have h9 : s.tmcout <+: u.tmcout := hp.tmcout
        have h10 : u.groups = s.groups ++ [completedGroup (frameBlock (s.shiftIn b))] := h10
        have h11 : u.synclog = s.synclog := h11
        split
        · simp [clearFlags, lose, syncLoss, h1, h2, h3, h4, h5, h6, h7, h8, h9, h10, h11]
        · simp [clearFlags, h1, h2, h3, h4, h5, h6, h7, h8, h9, h10, h11]
      · simp [frameBlock]

/-- The next states of a step: the port is empty, TUNED_FREQ is set, or a command runs. -/
theorem step_next {s t : State} (h : step s = .next t) :
    (s.port = [] ∧ t = s) ∨ (∃ khz rest, s.port = .setFreq khz :: rest ∧ t = (s.setPort rest).setFreq khz) ∨
      ∃ f rest, s.port = .command f :: rest ∧ exec (decodeCommand f) (s.setPort rest) = .next t := by
  unfold step at h
  split at h
  · cases h; exact .inl ⟨‹_›, rfl⟩
  · rename_i item rest hp
    unfold portStep at h
    split at h
    · exact .inr (.inr ⟨_, _, hp, h⟩)
    · cases h; exact .inr (.inl ⟨_, _, hp, rfl⟩)
    · cases h
    · cases h

end Sys2Proof.Machine
end

