-- ==== Sys2Proof/Laws/PerInstr.lean ====
section
/-! SUPPORT. The per-instruction family `EncodedInItsTable`: the key that the encoder gives an instruction lies in the row of
spec/opcode_table.json that the instruction stands for (mask and match of that row), in that row's own table. -/

namespace Sys2Proof.Laws

open Sys2Proof

/-- The six decode tables of spec/opcode_table.json. -/
inductive Table
  | command
  | groupType
  | tmcForm
  | alertcLabel
  | eonVariant
  | tuningVariant
deriving DecidableEq, Repr

/-- The decode table a code is looked up in, and its key there (30_encoding R60, R68, R69 and R73). -/
def codeKey : Code → Table × Nat
  | .command f => (.command, f.word.toNat)
  | .group g => (.groupType, g.values[1].toNat)
  | .tmc _ g => (.tmcForm, (g.values[1].extractLsb' 0 5).toNat * 65536 + g.values[2].toNat)
  | .record _ bits => (.alertcLabel, bitsVal (bits.take 4))
  | .eon n _ _ => (.eonVariant, n.toNat)
  | .tuning _ n _ _ => (.tuningVariant, n.toNat)

/-- The mask and the match of a row of spec/opcode_table.json, with its table. -/
structure TableRow where
  table : Table
  mask : Nat
  value : Nat
deriving DecidableEq, Repr

/-- The row of spec/opcode_table.json an instruction stands for. -/
def tableRow : Instr → TableRow
  | .reserved0 => ⟨.command, 0xF, 0x0⟩
  | .reset => ⟨.command, 0xF, 0x1⟩
  | .bit _ => ⟨.command, 0xF, 0x2⟩
  | .eos => ⟨.command, 0xF, 0x3⟩
  | .groupIn _ _ _ => ⟨.command, 0xF, 0x4⟩
  | .snapshot => ⟨.command, 0xF, 0x5⟩
  | .locOffset _ _ _ => ⟨.command, 0xF, 0x6⟩
  | .locEnclosing _ _ => ⟨.command, 0xF, 0x7⟩
  | .locCompare _ _ _ => ⟨.command, 0xF, 0x8⟩
  | .reserved9 => ⟨.command, 0xF, 0x9⟩
  | .reservedA => ⟨.command, 0xF, 0xA⟩
  | .reservedB => ⟨.command, 0xF, 0xB⟩
  | .reservedC => ⟨.command, 0xF, 0xC⟩
  | .reservedD => ⟨.command, 0xF, 0xD⟩
  | .reservedE => ⟨.command, 0xF, 0xE⟩
  | .reservedF => ⟨.command, 0xF, 0xF⟩
  | .group0A _ => ⟨.groupType, 0xF800, 0x0000⟩
  | .group0B _ => ⟨.groupType, 0xF800, 0x0800⟩
  | .group1A _ => ⟨.groupType, 0xF800, 0x1000⟩
  | .group1B _ => ⟨.groupType, 0xF800, 0x1800⟩
  | .group2A _ => ⟨.groupType, 0xF800, 0x2000⟩
  | .group2B _ => ⟨.groupType, 0xF800, 0x2800⟩
  | .group3A _ => ⟨.groupType, 0xF800, 0x3000⟩
  | .group3B _ => ⟨.groupType, 0xF800, 0x3800⟩
  | .group4A _ => ⟨.groupType, 0xF800, 0x4000⟩
  | .group4B _ => ⟨.groupType, 0xF800, 0x4800⟩
  | .group5A _ => ⟨.groupType, 0xF800, 0x5000⟩
  | .group5B _ => ⟨.groupType, 0xF800, 0x5800⟩
  | .group6A _ => ⟨.groupType, 0xF800, 0x6000⟩
  | .group6B _ => ⟨.groupType, 0xF800, 0x6800⟩
  | .group7A _ => ⟨.groupType, 0xF800, 0x7000⟩
  | .group7B _ => ⟨.groupType, 0xF800, 0x7800⟩
  | .group8A _ => ⟨.groupType, 0xF800, 0x8000⟩
  | .group8B _ => ⟨.groupType, 0xF800, 0x8800⟩
  | .group9A _ => ⟨.groupType, 0xF800, 0x9000⟩
  | .group9B _ => ⟨.groupType, 0xF800, 0x9800⟩
  | .group10A _ => ⟨.groupType, 0xF800, 0xA000⟩
  | .group10B _ => ⟨.groupType, 0xF800, 0xA800⟩
  | .group11A _ => ⟨.groupType, 0xF800, 0xB000⟩
  | .group11B _ => ⟨.groupType, 0xF800, 0xB800⟩
  | .group12A _ => ⟨.groupType, 0xF800, 0xC000⟩
  | .group12B _ => ⟨.groupType, 0xF800, 0xC800⟩
  | .group13A _ => ⟨.groupType, 0xF800, 0xD000⟩
  | .group13B _ => ⟨.groupType, 0xF800, 0xD800⟩
  | .group14A _ => ⟨.groupType, 0xF800, 0xE000⟩
  | .group14B _ => ⟨.groupType, 0xF800, 0xE800⟩
  | .group15A _ => ⟨.groupType, 0xF800, 0xF000⟩
  | .group15B _ => ⟨.groupType, 0xF800, 0xF800⟩
  | .tmcTuning _ _ _ _ => ⟨.tmcForm, 0x100000, 0x100000⟩
  | .tmcSingle _ _ _ _ _ _ _ _ => ⟨.tmcForm, 0x180000, 0x080000⟩
  | .tmcFirst _ _ _ _ _ _ => ⟨.tmcForm, 0x188000, 0x008000⟩
  | .tmcSubsequent _ _ _ _ _ _ _ => ⟨.tmcForm, 0x188000, 0x000000⟩
  | .alertcL0 _ _ => ⟨.alertcLabel, 0xF, 0x0⟩
  | .alertcL1 _ _ => ⟨.alertcLabel, 0xF, 0x1⟩
  | .alertcL2 _ _ => ⟨.alertcLabel, 0xF, 0x2⟩
  | .alertcL3 _ _ => ⟨.alertcLabel, 0xF, 0x3⟩
  | .alertcL4 _ _ => ⟨.alertcLabel, 0xF, 0x4⟩
  | .alertcL5 _ _ => ⟨.alertcLabel, 0xF, 0x5⟩
  | .alertcL6 _ _ => ⟨.alertcLabel, 0xF, 0x6⟩
  | .alertcL7 _ _ => ⟨.alertcLabel, 0xF, 0x7⟩
  | .alertcL8 _ _ => ⟨.alertcLabel, 0xF, 0x8⟩
  | .alertcL9 _ _ => ⟨.alertcLabel, 0xF, 0x9⟩
  | .alertcL10 _ _ => ⟨.alertcLabel, 0xF, 0xA⟩
  | .alertcL11 _ _ => ⟨.alertcLabel, 0xF, 0xB⟩
  | .alertcL12 _ _ => ⟨.alertcLabel, 0xF, 0xC⟩
  | .alertcL13 _ _ => ⟨.alertcLabel, 0xF, 0xD⟩
  | .alertcL14 _ => ⟨.alertcLabel, 0xF, 0xE⟩
  | .alertcL15 _ => ⟨.alertcLabel, 0xF, 0xF⟩
  | .eon14aV0 _ _ => ⟨.eonVariant, 0xF, 0x0⟩
  | .eon14aV1 _ _ => ⟨.eonVariant, 0xF, 0x1⟩
  | .eon14aV2 _ _ => ⟨.eonVariant, 0xF, 0x2⟩
  | .eon14aV3 _ _ => ⟨.eonVariant, 0xF, 0x3⟩
  | .eon14aV4 _ _ => ⟨.eonVariant, 0xF, 0x4⟩
  | .eon14aV5 _ _ => ⟨.eonVariant, 0xF, 0x5⟩
  | .eon14aV6 _ _ => ⟨.eonVariant, 0xF, 0x6⟩
  | .eon14aV7 _ _ => ⟨.eonVariant, 0xF, 0x7⟩
  | .eon14aV8 _ _ => ⟨.eonVariant, 0xF, 0x8⟩
  | .eon14aV9 _ _ => ⟨.eonVariant, 0xF, 0x9⟩
  | .eon14aV10 _ _ => ⟨.eonVariant, 0xF, 0xA⟩
  | .eon14aV11 _ _ => ⟨.eonVariant, 0xF, 0xB⟩
  | .eon14aV12 _ _ => ⟨.eonVariant, 0xF, 0xC⟩
  | .eon14aV13 _ _ => ⟨.eonVariant, 0xF, 0xD⟩
  | .eon14aV14 _ _ => ⟨.eonVariant, 0xF, 0xE⟩
  | .eon14aV15 _ _ => ⟨.eonVariant, 0xF, 0xF⟩
  | .tmcTuningV0 _ _ _ => ⟨.tuningVariant, 0xF, 0x0⟩
  | .tmcTuningV1 _ _ _ => ⟨.tuningVariant, 0xF, 0x1⟩
  | .tmcTuningV2 _ _ _ => ⟨.tuningVariant, 0xF, 0x2⟩
  | .tmcTuningV3 _ _ _ => ⟨.tuningVariant, 0xF, 0x3⟩
  | .tmcTuningV4 _ _ _ => ⟨.tuningVariant, 0xF, 0x4⟩
  | .tmcTuningV5 _ _ _ => ⟨.tuningVariant, 0xF, 0x5⟩
  | .tmcTuningV6 _ _ _ => ⟨.tuningVariant, 0xF, 0x6⟩
  | .tmcTuningV7 _ _ _ => ⟨.tuningVariant, 0xF, 0x7⟩
  | .tmcTuningV8 _ _ _ => ⟨.tuningVariant, 0xF, 0x8⟩
  | .tmcTuningV9 _ _ _ => ⟨.tuningVariant, 0xF, 0x9⟩
  | .tmcTuningV10 _ _ _ => ⟨.tuningVariant, 0xF, 0xA⟩
  | .tmcTuningV11 _ _ _ => ⟨.tuningVariant, 0xF, 0xB⟩
  | .tmcTuningV12 _ _ _ => ⟨.tuningVariant, 0xF, 0xC⟩
  | .tmcTuningV13 _ _ _ => ⟨.tuningVariant, 0xF, 0xD⟩
  | .tmcTuningV14 _ _ _ => ⟨.tuningVariant, 0xF, 0xE⟩
  | .tmcTuningV15 _ _ _ => ⟨.tuningVariant, 0xF, 0xF⟩

/-- The encoder puts the instruction into its own row: its key, masked, is the row's match. -/
def EncodedInItsTable.Statement (i : Instr) : Prop :=
  (codeKey (encode i)).1 = (tableRow i).table ∧
    Nat.land (codeKey (encode i)).2 (tableRow i).mask = (tableRow i).value

/-- Block 1 of a group row keeps the row's type and version under the table's mask. -/
theorem b1Of_masked (slot : Slot) (tp : Bool) (pty x : BitVec 5) :
    b1Of slot tp pty x &&& 0xF800#16 = slot.type ++ BitVec.ofBool slot.ver.bit ++ (0 : BitVec 11) := by
  apply BitVec.eq_of_getLsbD_eq
  intro i hi
  interval_cases i <;> simp only [b1Of, BitVec.getLsbD_and, BitVec.getLsbD_append] <;> simp

/-- A group row's key is its block 1. -/
theorem group_key (slot : Slot) (f : GroupFields) :
    Nat.land (codeKey (.group (f.group slot))).2 0xF800 =
      (slot.type ++ BitVec.ofBool slot.ver.bit ++ (0 : BitVec 11)).toNat := by
  rw [← b1Of_masked slot f.tp f.pty f.x]
  rfl

/-- A TMC group carries its X. -/
theorem tmcGroup_x (slot : Slot) (x : BitVec 5) (b2 b3 : Word) (bt : BitTime) :
    (tmcGroup slot x b2 b3 bt).values[1].extractLsb' 0 5 = x := by
  apply BitVec.eq_of_getLsbD_eq
  intro i hi
  interval_cases i <;> show (BitVec.extractLsb' 0 5 (b1Of slot false 0 x)).getLsbD _ = _ <;>
    simp only [b1Of, BitVec.getLsbD_extractLsb', BitVec.getLsbD_append] <;> simp

/-- A TMC form's key is X and block 2. -/
theorem tmc_key (slot : Slot) (x : BitVec 5) (b2 b3 : Word) (bt : BitTime) (mask : BitVec 21) :
    Nat.land (codeKey (.tmc slot (tmcGroup slot x b2 b3 bt))).2 mask.toNat = ((x ++ b2) &&& mask).toNat := by
  have h : x.toNat * 65536 + b2.toNat = (x ++ b2).toNat := by
    rw [BitVec.toNat_append, ← Nat.shiftLeft_add_eq_or_of_lt b2.isLt, Nat.shiftLeft_eq]
  show Nat.land (((tmcGroup slot x b2 b3 bt).values[1].extractLsb' 0 5).toNat * 65536 + b2.toNat) _ = _
  rw [tmcGroup_x, h]
  rfl

/-- A command's key is its word, whose low four bits are the op code. -/
theorem command_key (hi op : BitVec 4) (f : Frame) (h : f.word = commandWord hi op) :
    Nat.land (codeKey (.command f)).2 0xF = op.toNat := by
  have e : commandWord hi op &&& 0xF#8 = (0 : BitVec 4) ++ op := by
    apply BitVec.eq_of_getLsbD_eq
    intro i hi
    interval_cases i <;> simp only [commandWord, BitVec.getLsbD_and, BitVec.getLsbD_append] <;> simp
  show Nat.land f.word.toNat 0xF = _
  rw [h]
  have e2 : ((0 : BitVec 4) ++ op).toNat = op.toNat := by rw [BitVec.toNat_append]; simp
  have := (congrArg BitVec.toNat e).trans e2
  exact this

/-- A record's key is its label. -/
theorem record_key (slot : Slot) (label val : Nat) (h : label < 16) :
    Nat.land (codeKey (recordCode slot label val)).2 0xF = label := by
  show Nat.land (bitsVal ((bitsMsb 4 label ++ bitsMsb (labelSize label) val).take 4)) _ = _
  rw [List.take_append_of_le_length (by simp [bitsMsb])]
  interval_cases label <;> decide

namespace EncodedInItsTable

theorem reserved0 : Statement (.reserved0) :=
  ⟨rfl, command_key 0 0 _ rfl⟩

theorem reset : Statement (.reset) :=
  ⟨rfl, command_key 0 1 _ rfl⟩

theorem bit (a0 : Bool) : Statement (.bit a0) :=
  ⟨rfl, command_key (bitNibble a0) 2 _ rfl⟩

theorem eos : Statement (.eos) :=
  ⟨rfl, command_key 0 3 _ rfl⟩

theorem groupIn (a0 : Vector Bool 4) (a1 : Vector Word 4) (a2 : BitTime) : Statement (.groupIn a0 a1 a2) :=
  ⟨rfl, command_key (flagNibble a0) 4 _ rfl⟩

theorem snapshot : Statement (.snapshot) :=
  ⟨rfl, command_key 0 5 _ rfl⟩

theorem locOffset (a0 : Dir) (a1 : LocKey) (a2 : BitVec 32) : Statement (.locOffset a0 a1 a2) :=
  ⟨rfl, command_key (bitNibble a0.bit) 6 _ rfl⟩

theorem locEnclosing (a0 : LocKey) (a1 : Option LocKey) : Statement (.locEnclosing a0 a1) := by
  cases a1 <;> exact ⟨rfl, command_key 0 7 _ rfl⟩

theorem locCompare (a0 : Bool) (a1 a2 : LocKey) : Statement (.locCompare a0 a1 a2) :=
  ⟨rfl, command_key (bitNibble a0) 8 _ rfl⟩

theorem reserved9 : Statement (.reserved9) :=
  ⟨rfl, command_key 0 9 _ rfl⟩

theorem reservedA : Statement (.reservedA) :=
  ⟨rfl, command_key 0 10 _ rfl⟩

theorem reservedB : Statement (.reservedB) :=
  ⟨rfl, command_key 0 11 _ rfl⟩

theorem reservedC : Statement (.reservedC) :=
  ⟨rfl, command_key 0 12 _ rfl⟩

theorem reservedD : Statement (.reservedD) :=
  ⟨rfl, command_key 0 13 _ rfl⟩

theorem reservedE : Statement (.reservedE) :=
  ⟨rfl, command_key 0 14 _ rfl⟩

theorem reservedF : Statement (.reservedF) :=
  ⟨rfl, command_key 0 15 _ rfl⟩

theorem group0A (a0 : GroupFields) : Statement (.group0A a0) :=
  ⟨rfl, group_key ⟨0, .A⟩ a0⟩

theorem group0B (a0 : GroupFields) : Statement (.group0B a0) :=
  ⟨rfl, group_key ⟨0, .B⟩ a0⟩

theorem group1A (a0 : GroupFields) : Statement (.group1A a0) :=
  ⟨rfl, group_key ⟨1, .A⟩ a0⟩

theorem group1B (a0 : GroupFields) : Statement (.group1B a0) :=
  ⟨rfl, group_key ⟨1, .B⟩ a0⟩

theorem group2A (a0 : GroupFields) : Statement (.group2A a0) :=
  ⟨rfl, group_key ⟨2, .A⟩ a0⟩

theorem group2B (a0 : GroupFields) : Statement (.group2B a0) :=
  ⟨rfl, group_key ⟨2, .B⟩ a0⟩

theorem group3A (a0 : GroupFields) : Statement (.group3A a0) :=
  ⟨rfl, group_key ⟨3, .A⟩ a0⟩

theorem group3B (a0 : GroupFields) : Statement (.group3B a0) :=
  ⟨rfl, group_key ⟨3, .B⟩ a0⟩

theorem group4A (a0 : GroupFields) : Statement (.group4A a0) :=
  ⟨rfl, group_key ⟨4, .A⟩ a0⟩

theorem group4B (a0 : GroupFields) : Statement (.group4B a0) :=
  ⟨rfl, group_key ⟨4, .B⟩ a0⟩

theorem group5A (a0 : GroupFields) : Statement (.group5A a0) :=
  ⟨rfl, group_key ⟨5, .A⟩ a0⟩

theorem group5B (a0 : GroupFields) : Statement (.group5B a0) :=
  ⟨rfl, group_key ⟨5, .B⟩ a0⟩

theorem group6A (a0 : GroupFields) : Statement (.group6A a0) :=
  ⟨rfl, group_key ⟨6, .A⟩ a0⟩

theorem group6B (a0 : GroupFields) : Statement (.group6B a0) :=
  ⟨rfl, group_key ⟨6, .B⟩ a0⟩

theorem group7A (a0 : GroupFields) : Statement (.group7A a0) :=
  ⟨rfl, group_key ⟨7, .A⟩ a0⟩

theorem group7B (a0 : GroupFields) : Statement (.group7B a0) :=
  ⟨rfl, group_key ⟨7, .B⟩ a0⟩

theorem group8A (a0 : GroupFields) : Statement (.group8A a0) :=
  ⟨rfl, group_key ⟨8, .A⟩ a0⟩

theorem group8B (a0 : GroupFields) : Statement (.group8B a0) :=
  ⟨rfl, group_key ⟨8, .B⟩ a0⟩

theorem group9A (a0 : GroupFields) : Statement (.group9A a0) :=
  ⟨rfl, group_key ⟨9, .A⟩ a0⟩

theorem group9B (a0 : GroupFields) : Statement (.group9B a0) :=
  ⟨rfl, group_key ⟨9, .B⟩ a0⟩

theorem group10A (a0 : GroupFields) : Statement (.group10A a0) :=
  ⟨rfl, group_key ⟨10, .A⟩ a0⟩

theorem group10B (a0 : GroupFields) : Statement (.group10B a0) :=
  ⟨rfl, group_key ⟨10, .B⟩ a0⟩

theorem group11A (a0 : GroupFields) : Statement (.group11A a0) :=
  ⟨rfl, group_key ⟨11, .A⟩ a0⟩

theorem group11B (a0 : GroupFields) : Statement (.group11B a0) :=
  ⟨rfl, group_key ⟨11, .B⟩ a0⟩

theorem group12A (a0 : GroupFields) : Statement (.group12A a0) :=
  ⟨rfl, group_key ⟨12, .A⟩ a0⟩

theorem group12B (a0 : GroupFields) : Statement (.group12B a0) :=
  ⟨rfl, group_key ⟨12, .B⟩ a0⟩

theorem group13A (a0 : GroupFields) : Statement (.group13A a0) :=
  ⟨rfl, group_key ⟨13, .A⟩ a0⟩

theorem group13B (a0 : GroupFields) : Statement (.group13B a0) :=
  ⟨rfl, group_key ⟨13, .B⟩ a0⟩

theorem group14A (a0 : GroupFields) : Statement (.group14A a0) :=
  ⟨rfl, group_key ⟨14, .A⟩ a0⟩

theorem group14B (a0 : GroupFields) : Statement (.group14B a0) :=
  ⟨rfl, group_key ⟨14, .B⟩ a0⟩

theorem group15A (a0 : GroupFields) : Statement (.group15A a0) :=
  ⟨rfl, group_key ⟨15, .A⟩ a0⟩

theorem group15B (a0 : GroupFields) : Statement (.group15B a0) :=
  ⟨rfl, group_key ⟨15, .B⟩ a0⟩

theorem tmcTuning (a0 : Slot) (a1 : BitVec 4) (a2 a3 : Word) : Statement (.tmcTuning a0 a1 a2 a3) := by
  refine ⟨rfl, (tmc_key _ _ _ _ _ 0x100000#21).trans (congrArg BitVec.toNat (a₂ := 0x100000#21) ?_)⟩
  apply BitVec.eq_of_getLsbD_eq
  intro i hi
  interval_cases i <;> simp only [BitVec.getLsbD_and, BitVec.getLsbD_append] <;> simp

theorem tmcSingle (a0 : Slot) (a1 : BitVec 3) (a2 a3 : Bool) (a4 : BitVec 3) (a5 : BitVec 11) (a6 : Word) (a7 : BitTime) : Statement (.tmcSingle a0 a1 a2 a3 a4 a5 a6 a7) := by
  refine ⟨rfl, (tmc_key _ _ _ _ _ 0x180000#21).trans (congrArg BitVec.toNat (a₂ := 0x080000#21) ?_)⟩
  apply BitVec.eq_of_getLsbD_eq
  intro i hi
  interval_cases i <;> simp only [BitVec.getLsbD_and, BitVec.getLsbD_append] <;> simp

theorem tmcFirst (a0 : Slot) (a1 : BitVec 3) (a2 : Bool) (a3 : BitVec 3) (a4 : BitVec 11) (a5 : Word) : Statement (.tmcFirst a0 a1 a2 a3 a4 a5) := by
  refine ⟨rfl, (tmc_key _ _ _ _ _ 0x188000#21).trans (congrArg BitVec.toNat (a₂ := 0x008000#21) ?_)⟩
  apply BitVec.eq_of_getLsbD_eq
  intro i hi
  interval_cases i <;> simp only [BitVec.getLsbD_and, BitVec.getLsbD_append] <;> simp

theorem tmcSubsequent (a0 : Slot) (a1 : BitVec 3) (a2 : Bool) (a3 : BitVec 2) (a4 : BitVec 12) (a5 : Word) (a6 : BitTime) : Statement (.tmcSubsequent a0 a1 a2 a3 a4 a5 a6) := by
  refine ⟨rfl, (tmc_key _ _ _ _ _ 0x188000#21).trans (congrArg BitVec.toNat (a₂ := 0x000000#21) ?_)⟩
  apply BitVec.eq_of_getLsbD_eq
  intro i hi
  interval_cases i <;> simp only [BitVec.getLsbD_and, BitVec.getLsbD_append] <;> simp

theorem alertcL0 (a0 : Slot) (a1 : BitVec 3) : Statement (.alertcL0 a0 a1) :=
  ⟨rfl, record_key a0 0 _ (by decide)⟩

theorem alertcL1 (a0 : Slot) (a1 : BitVec 3) : Statement (.alertcL1 a0 a1) :=
  ⟨rfl, record_key a0 1 _ (by decide)⟩

theorem alertcL2 (a0 : Slot) (a1 : BitVec 5) : Statement (.alertcL2 a0 a1) :=
  ⟨rfl, record_key a0 2 _ (by decide)⟩

theorem alertcL3 (a0 : Slot) (a1 : BitVec 5) : Statement (.alertcL3 a0 a1) :=
  ⟨rfl, record_key a0 3 _ (by decide)⟩

theorem alertcL4 (a0 : Slot) (a1 : BitVec 5) : Statement (.alertcL4 a0 a1) :=
  ⟨rfl, record_key a0 4 _ (by decide)⟩

theorem alertcL5 (a0 : Slot) (a1 : BitVec 8) : Statement (.alertcL5 a0 a1) :=
  ⟨rfl, record_key a0 5 _ (by decide)⟩

theorem alertcL6 (a0 : Slot) (a1 : BitVec 8) : Statement (.alertcL6 a0 a1) :=
  ⟨rfl, record_key a0 6 _ (by decide)⟩

theorem alertcL7 (a0 : Slot) (a1 : BitVec 8) : Statement (.alertcL7 a0 a1) :=
  ⟨rfl, record_key a0 7 _ (by decide)⟩

theorem alertcL8 (a0 : Slot) (a1 : BitVec 8) : Statement (.alertcL8 a0 a1) :=
  ⟨rfl, record_key a0 8 _ (by decide)⟩

theorem alertcL9 (a0 : Slot) (a1 : BitVec 11) : Statement (.alertcL9 a0 a1) :=
  ⟨rfl, record_key a0 9 _ (by decide)⟩

theorem alertcL10 (a0 : Slot) (a1 : BitVec 16) : Statement (.alertcL10 a0 a1) :=
  ⟨rfl, record_key a0 10 _ (by decide)⟩

theorem alertcL11 (a0 : Slot) (a1 : BitVec 16) : Statement (.alertcL11 a0 a1) :=
  ⟨rfl, record_key a0 11 _ (by decide)⟩

theorem alertcL12 (a0 : Slot) (a1 : BitVec 16) : Statement (.alertcL12 a0 a1) :=
  ⟨rfl, record_key a0 12 _ (by decide)⟩

theorem alertcL13 (a0 : Slot) (a1 : BitVec 16) : Statement (.alertcL13 a0 a1) :=
  ⟨rfl, record_key a0 13 _ (by decide)⟩

theorem alertcL14 (a0 : Slot) : Statement (.alertcL14 a0) :=
  ⟨rfl, record_key a0 14 _ (by decide)⟩

theorem alertcL15 (a0 : Slot) : Statement (.alertcL15 a0) :=
  ⟨rfl, record_key a0 15 _ (by decide)⟩

theorem eon14aV0 (a0 a1 : Word) : Statement (.eon14aV0 a0 a1) :=
  ⟨rfl, (by decide : Nat.land 0 0xF = 0)⟩

theorem eon14aV1 (a0 a1 : Word) : Statement (.eon14aV1 a0 a1) :=
  ⟨rfl, (by decide : Nat.land 1 0xF = 1)⟩

theorem eon14aV2 (a0 a1 : Word) : Statement (.eon14aV2 a0 a1) :=
  ⟨rfl, (by decide : Nat.land 2 0xF = 2)⟩

theorem eon14aV3 (a0 a1 : Word) : Statement (.eon14aV3 a0 a1) :=
  ⟨rfl, (by decide : Nat.land 3 0xF = 3)⟩

theorem eon14aV4 (a0 a1 : Word) : Statement (.eon14aV4 a0 a1) :=
  ⟨rfl, (by decide : Nat.land 4 0xF = 4)⟩

theorem eon14aV5 (a0 a1 : Word) : Statement (.eon14aV5 a0 a1) :=
  ⟨rfl, (by decide : Nat.land 5 0xF = 5)⟩

theorem eon14aV6 (a0 a1 : Word) : Statement (.eon14aV6 a0 a1) :=
  ⟨rfl, (by decide : Nat.land 6 0xF = 6)⟩

theorem eon14aV7 (a0 a1 : Word) : Statement (.eon14aV7 a0 a1) :=
  ⟨rfl, (by decide : Nat.land 7 0xF = 7)⟩

theorem eon14aV8 (a0 a1 : Word) : Statement (.eon14aV8 a0 a1) :=
  ⟨rfl, (by decide : Nat.land 8 0xF = 8)⟩

theorem eon14aV9 (a0 a1 : Word) : Statement (.eon14aV9 a0 a1) :=
  ⟨rfl, (by decide : Nat.land 9 0xF = 9)⟩

theorem eon14aV10 (a0 a1 : Word) : Statement (.eon14aV10 a0 a1) :=
  ⟨rfl, (by decide : Nat.land 10 0xF = 10)⟩

theorem eon14aV11 (a0 a1 : Word) : Statement (.eon14aV11 a0 a1) :=
  ⟨rfl, (by decide : Nat.land 11 0xF = 11)⟩

theorem eon14aV12 (a0 a1 : Word) : Statement (.eon14aV12 a0 a1) :=
  ⟨rfl, (by decide : Nat.land 12 0xF = 12)⟩

theorem eon14aV13 (a0 a1 : Word) : Statement (.eon14aV13 a0 a1) :=
  ⟨rfl, (by decide : Nat.land 13 0xF = 13)⟩

theorem eon14aV14 (a0 a1 : Word) : Statement (.eon14aV14 a0 a1) :=
  ⟨rfl, (by decide : Nat.land 14 0xF = 14)⟩

theorem eon14aV15 (a0 a1 : Word) : Statement (.eon14aV15 a0 a1) :=
  ⟨rfl, (by decide : Nat.land 15 0xF = 15)⟩

theorem tmcTuningV0 (a0 : Slot) (a1 a2 : Word) : Statement (.tmcTuningV0 a0 a1 a2) :=
  ⟨rfl, (by decide : Nat.land 0 0xF = 0)⟩

theorem tmcTuningV1 (a0 : Slot) (a1 a2 : Word) : Statement (.tmcTuningV1 a0 a1 a2) :=
  ⟨rfl, (by decide : Nat.land 1 0xF = 1)⟩

theorem tmcTuningV2 (a0 : Slot) (a1 a2 : Word) : Statement (.tmcTuningV2 a0 a1 a2) :=
  ⟨rfl, (by decide : Nat.land 2 0xF = 2)⟩

theorem tmcTuningV3 (a0 : Slot) (a1 a2 : Word) : Statement (.tmcTuningV3 a0 a1 a2) :=
  ⟨rfl, (by decide : Nat.land 3 0xF = 3)⟩

theorem tmcTuningV4 (a0 : Slot) (a1 a2 : Word) : Statement (.tmcTuningV4 a0 a1 a2) :=
  ⟨rfl, (by decide : Nat.land 4 0xF = 4)⟩

theorem tmcTuningV5 (a0 : Slot) (a1 a2 : Word) : Statement (.tmcTuningV5 a0 a1 a2) :=
  ⟨rfl, (by decide : Nat.land 5 0xF = 5)⟩

theorem tmcTuningV6 (a0 : Slot) (a1 a2 : Word) : Statement (.tmcTuningV6 a0 a1 a2) :=
  ⟨rfl, (by decide : Nat.land 6 0xF = 6)⟩

theorem tmcTuningV7 (a0 : Slot) (a1 a2 : Word) : Statement (.tmcTuningV7 a0 a1 a2) :=
  ⟨rfl, (by decide : Nat.land 7 0xF = 7)⟩

theorem tmcTuningV8 (a0 : Slot) (a1 a2 : Word) : Statement (.tmcTuningV8 a0 a1 a2) :=
  ⟨rfl, (by decide : Nat.land 8 0xF = 8)⟩

theorem tmcTuningV9 (a0 : Slot) (a1 a2 : Word) : Statement (.tmcTuningV9 a0 a1 a2) :=
  ⟨rfl, (by decide : Nat.land 9 0xF = 9)⟩

theorem tmcTuningV10 (a0 : Slot) (a1 a2 : Word) : Statement (.tmcTuningV10 a0 a1 a2) :=
  ⟨rfl, (by decide : Nat.land 10 0xF = 10)⟩

theorem tmcTuningV11 (a0 : Slot) (a1 a2 : Word) : Statement (.tmcTuningV11 a0 a1 a2) :=
  ⟨rfl, (by decide : Nat.land 11 0xF = 11)⟩

theorem tmcTuningV12 (a0 : Slot) (a1 a2 : Word) : Statement (.tmcTuningV12 a0 a1 a2) :=
  ⟨rfl, (by decide : Nat.land 12 0xF = 12)⟩

theorem tmcTuningV13 (a0 : Slot) (a1 a2 : Word) : Statement (.tmcTuningV13 a0 a1 a2) :=
  ⟨rfl, (by decide : Nat.land 13 0xF = 13)⟩

theorem tmcTuningV14 (a0 : Slot) (a1 a2 : Word) : Statement (.tmcTuningV14 a0 a1 a2) :=
  ⟨rfl, (by decide : Nat.land 14 0xF = 14)⟩

theorem tmcTuningV15 (a0 : Slot) (a1 a2 : Word) : Statement (.tmcTuningV15 a0 a1 a2) :=
  ⟨rfl, (by decide : Nat.land 15 0xF = 15)⟩

end EncodedInItsTable

end Sys2Proof.Laws
end

