-- ==== Sys2Proof/Laws/Decode.lean ====
section
/-! SUPPORT. What the inner decoders read from a group that a row sends on: the fields come back, and RECV, 14A and TUNING run
the row they decode (44_tmc R127 and R128, 43_group_types R122, 44_tmc R141). -/

namespace Sys2Proof.Machine

open Sys2Proof Sys2Proof.Laws

/-- The type and version of a group laid out from its fields (30_encoding R66). -/
theorem ofB1_group (slot : Slot) (g : GroupFields) : Slot.ofB1 (g.group slot).values[1] = slot := by
  obtain ⟨t, v⟩ := slot
  have h1 : (b1Of ⟨t, v⟩ g.tp g.pty g.x).extractLsb' 12 4 = t := by
    apply BitVec.eq_of_getLsbD_eq; intro i hi
    simp only [b1Of, BitVec.getLsbD_extractLsb', BitVec.getLsbD_append, hi, decide_true, Bool.true_and]
    rw [if_neg (by omega), if_neg (by omega), if_neg (by omega), if_neg (by omega)]
    congr 1; omega
  have h2 : (b1Of ⟨t, v⟩ g.tp g.pty g.x).getLsbD 11 = v.bit := by
    simp only [b1Of, BitVec.getLsbD_append]
    rw [if_neg (by omega), if_neg (by omega), if_neg (by omega), if_pos (by omega)]
    simp
  show Slot.mk _ _ = _
  have e : (g.group ⟨t, v⟩).values[1] = b1Of ⟨t, v⟩ g.tp g.pty g.x := rfl
  rw [e, h1, h2]
  cases v <;> rfl

/-- The op code of a command word (30_encoding R60). -/
theorem commandWord_op (hi op : BitVec 4) : (commandWord hi op).extractLsb' 0 4 = op := by
  apply BitVec.eq_of_getLsbD_eq
  intro i hi
  interval_cases i <;> simp only [commandWord, BitVec.getLsbD_extractLsb', BitVec.getLsbD_append] <;> simp

/-- The operand bit of a command word (30_encoding R60). -/
theorem commandWord_bit (b : Bool) (op : BitVec 4) : (commandWord (bitNibble b) op).getLsbD 4 = b := by
  simp only [commandWord, bitNibble, BitVec.getLsbD_append]; simp

/-- The flags of a GROUP_IN word (30_encoding R60). -/
theorem commandWord_flags (f : Vector Bool 4) (op : BitVec 4) : wordFlags (commandWord (flagNibble f) op) = f := by
  ext i hi
  simp only [wordFlags, commandWord, flagNibble, BitVec.getLsbD_append]
  interval_cases i <;> simp

/-- The fields of a group laid out from them (30_encoding R66). -/
theorem group_fields (slot : Slot) (f : GroupFields) : (f.group slot).fields = f := by
  obtain ⟨tp, pty, x, f0, f2, f3, v0, b2, b3, bt⟩ := f
  have h1 : (b1Of slot tp pty x).getLsbD 10 = tp := by
    simp only [b1Of, BitVec.getLsbD_append]; simp
  have h2 : (b1Of slot tp pty x).extractLsb' 5 5 = pty := by
    apply BitVec.eq_of_getLsbD_eq
    intro i hi
    interval_cases i <;> simp only [b1Of, BitVec.getLsbD_extractLsb', BitVec.getLsbD_append] <;> simp
  have h3 : (b1Of slot tp pty x).extractLsb' 0 5 = x := by
    apply BitVec.eq_of_getLsbD_eq
    intro i hi
    interval_cases i <;> simp only [b1Of, BitVec.getLsbD_extractLsb', BitVec.getLsbD_append] <;> simp
  simp only [GroupFields.group, Group.of, Group.fields]
  rw [BitVec.getLsbD_eq_getElem (by omega)] at h1
  simp [h1, h2, h3]

/-- The row of a group laid out from its fields (30_encoding R68). -/
theorem decode_group (slot : Slot) (f : GroupFields) : decode (.group (f.group slot)) = .ok (groupRow slot f) := by
  show decodeGroup _ = _
  unfold decodeGroup
  rw [ofB1_group, group_fields]; rfl

/-- The TMC form of a forwarded group (44_tmc R128). -/
theorem decode_tmcGroup (slot : Slot) (hs : slot.forwarded = true) (x : BitVec 5) (b2 b3 : Word) (bt : BitTime) :
    decode (.tmc slot (tmcGroup slot x b2 b3 bt)) = .ok (tmcForm slot x b2 b3 bt) := by
  show decodeTmc _ _ = _
  unfold decodeTmc
  have h : Slot.ofB1 (tmcGroup slot x b2 b3 bt).values[1] = slot := ofB1_group _ _
  have hne : slot.type ≠ 3 := by
    intro e; simp [Slot.forwarded, e] at hs
  rw [h, if_neg hne, tmcGroup_x]; rfl

/-- The label row of one record (30_encoding R73). -/
theorem decode_record (slot : Slot) (label val : Nat) (hl : label < 16) (hv : val < 2 ^ labelSize label) :
    decode (recordCode slot label val) = .ok (labelRow slot label val) := by
  show decodeRecord _ _ = _
  have hlab : bitsVal (List.take 4 (bitsMsb 4 label ++ bitsMsb (labelSize label) val)) = label := by
    rw [List.take_append_of_le_length (by simp), List.take_of_length_le (by simp), bitsVal_bitsMsb]
    omega
  have : takeRecord (bitsMsb 4 label ++ bitsMsb (labelSize label) val) = some (label, val, []) := by
    unfold takeRecord
    simp only [hlab]
    rw [if_pos (by simp), if_pos (by simp)]
    have e1 : List.drop 4 (bitsMsb 4 label ++ bitsMsb (labelSize label) val) = bitsMsb (labelSize label) val := by
      rw [List.drop_append_of_le_length (by simp), List.drop_of_length_le (by simp)]; rfl
    rw [e1, List.take_of_length_le (by simp), bitsVal_bitsMsb, Nat.mod_eq_of_lt hv,
      List.drop_of_length_le (by simp)]
  simp only [decodeRecord, this]

/-- TMC's RECV on a group of its own slot: nothing without blocks 2 and 3, else the TMC form it decodes to. -/
theorem recvTmc_cases (slot : Slot) (hs : slot.type ≠ 3) (g : GroupFields) (s : State) :
    ((g.f2 && g.f3) = false → recvTmc slot (g.group slot) s = s) ∧
    ((g.f2 && g.f3) = true → ∃ form, decode (.tmc slot (g.group slot)) = .ok form ∧
      exec form s = .next (recvTmc slot (g.group slot) s)) := by
  have hb := ofB1_group slot g
  have hf : ((g.group slot).flags[1] && (g.group slot).flags[2] && (g.group slot).flags[3]) = (g.f2 && g.f3) := by
    simp [GroupFields.group, Group.of]
  constructor
  · intro h
    simp only [recvTmc, decodeTmc, hf, h]; rfl
  · intro h
    have hd : decodeTmc slot (g.group slot) = .ok (tmcForm slot ((g.group slot).values[1].extractLsb' 0 5)
        (g.group slot).values[2] (g.group slot).values[3] (g.group slot).bt) := by
      simp only [decodeTmc, hf, h, hb, if_neg hs, if_true]
    refine ⟨_, hd, ?_⟩
    simp only [recvTmc, hd]
    unfold tmcForm
    split
    · rfl
    · split
      · rfl
      · split <;> rfl

/-- 14A runs the variant row that its variant field decodes to. -/
theorem runEon_exec (n : BitVec 4) (p b : Word) (s : State) : exec (eonRow n p b) s = .next (runEon (eonRow n p b) s) := by
  unfold eonRow; split <;> rfl

/-- TUNING runs the variant row that its variant field decodes to. -/
theorem runTuning_exec (slot : Slot) (n : BitVec 4) (b2 b3 : Word) (s : State) :
    exec (tuningRow slot n b2 b3) s = .next (updInst slot (runTuning (tuningRow slot n b2 b3)) s) := by
  unfold tuningRow
  split <;> rfl

end Sys2Proof.Machine
end

