-- ==== Sys2Proof/Laws/Eon.lean ====
section
/-! SUPPORT. What a write to the table of other networks can do (43_group_types R121 to R123). -/

namespace Sys2Proof.Machine

open Sys2Proof

/-- A write to the ON record of a PI that is there, or that fits: that record alone is written. -/
theorem updOn_written {pi : Word} {f : OtherNetwork → OtherNetwork} {s : State} {r : OtherNetwork} 
   (h : tabFind OtherNetwork.pi pi s.st.eon = some r ∨
      (tabFind OtherNetwork.pi pi s.st.eon = none ∧ s.st.eon.length < 32 ∧ r = OtherNetwork.fresh pi)) :
   OnWritten s (updOn pi f s) { f r with pi := r.pi } ∧ onRecord pi s.st.eon = some r ∧ r.pi = pi := by
  have hr : onRecord pi s.st.eon = some r ∧ r.pi = pi := by
    unfold onRecord
    rcases h with h | ⟨h1, h2, h3⟩
    · rw [h]; exact ⟨rfl, tabFind_key h⟩
    · rw [h1, h3]; exact ⟨if_pos h2, rfl⟩
  refine ⟨?_, hr⟩
  have e : updOn pi f s = s.updSt fun st => { st with eon := tabPut OtherNetwork.pi { f r with pi := r.pi } st.eon } := by
    unfold updOn; rw [hr.1]
  rw [e]
  refine ⟨⟨_, rfl⟩, ?_, ?_⟩
  · exact (tabFind_tabPut _ _ _).trans (if_pos rfl)
  · intro q hq
    exact (tabFind_tabPut _ _ _).trans (if_neg hq)

/-- A full table gives no record to a new PI. -/
theorem onRecord_full {pi : Word} {eon : List OtherNetwork} (h : tabFind OtherNetwork.pi pi eon = none) (hl : 32 ≤ eon.length) : onRecord pi eon = none := by
  unfold onRecord; rw [h]; exact if_neg (by simp [Config.eonCap]; omega)

end Sys2Proof.Machine
end

