-- ==== Sys2Proof/Laws/Location.lean ====
section
/-! SUPPORT. What PARENT, CHAIN, a neighbour and a round of COMPARE can do (45_location R143 to R147), said once each. -/

namespace Sys2Proof.Machine

open Sys2Proof

/-- A reference is a key of the record's own country and table (20_memory R48). -/
theorem ref_inTable {r : LocRecord} {code : LocRef} {k : LocKey} (h : r.ref code = some k) :
    k.cid = r.key.cid ∧ k.tabcd = r.key.tabcd := by
  unfold LocRecord.ref at h
  cases code with
  | none => cases h
  | some c => cases h; exact ⟨rfl, rfl⟩

/-- A followed reference of a record is a key of its own country and table. -/
theorem follow_inTable {m : Memory} {r : LocRecord} {code : LocRef} {k : LocKey} (h : m.follow (r.ref code) = some k) :
    k.cid = r.key.cid ∧ k.tabcd = r.key.tabcd :=
  ref_inTable (Memory.follow_some h).1

/-- A parent is a key of the record's own country and table. -/
theorem parentOf_inTable {m : Memory} {r : LocRecord} {p : LocKey} (h : parentOf m r = some p) :
    p.cid = r.key.cid ∧ p.tabcd = r.key.tabcd := by
  have first {a b : LocRef} (h : firstKey (m.follow (r.ref a)) (m.follow (r.ref b)) = some p) :
      p.cid = r.key.cid ∧ p.tabcd = r.key.tabcd := by
    unfold firstKey at h
    split at h
    · cases h; exact follow_inTable ‹_›
    · exact follow_inTable h
  obtain ⟨key, cls, type, subtype, names, area, body⟩ := r
  cases body
  · exact follow_inTable (r := ⟨key, cls, type, subtype, names, area, .area⟩) h
  · cases h
  · exact first h
  · exact first h

/-- Only a SEGMENT or a POINT has neighbours, and they are of its own country and table (20_memory R48). -/
theorem neighbour_inTable {m : Memory} {d : Dir} {k n : LocKey} (h : neighbour m d k = some n) :
    n.cid = k.cid ∧ n.tabcd = k.tabcd ∧ ∃ r, m.read k = some r ∧ (r.kind = .segment ∨ r.kind = .point) := by
  unfold neighbour at h
  cases hr : m.read k with
  | none => simp [hr] at h
  | some r =>
    rw [← (Memory.read_some hr).2]
    simp only [hr] at h
    obtain ⟨key, cls, type, subtype, names, area, body⟩ := r
    cases body <;> cases d <;>
      first
      | exact ⟨(follow_inTable h).1, (follow_inTable h).2, _, rfl, .inl rfl⟩
      | exact ⟨(follow_inTable h).1, (follow_inTable h).2, _, rfl, .inr rfl⟩
      | cases h

/-- A followed reference is a key LT holds. -/
theorem Memory.follow_isSome {m : Memory} {ref k} (h : m.follow ref = some k) : (m.read k).isSome := by
  unfold Memory.follow at h
  cases ref with
  | none => cases h
  | some a => simp only at h; split at h <;> simp_all

/-- A parent is a key LT holds. -/
theorem parentOf_isSome {m : Memory} {r p} (h : parentOf m r = some p) : (m.read p).isSome := by
  unfold parentOf at h
  cases hk : r.kind <;> simp only [hk] at h
  · exact Memory.follow_isSome h
  · cases h
  · unfold firstKey at h
    cases h1 : m.follow r.pseg <;> simp [h1] at h
    · exact Memory.follow_isSome h
    · subst h; exact Memory.follow_isSome h1
  · unfold firstKey at h
    cases h1 : m.follow r.seg <;> simp [h1] at h
    · exact Memory.follow_isSome h
    · subst h; exact Memory.follow_isSome h1

/-- A neighbour is a key LT holds. -/
theorem neighbour_isSome {m : Memory} {d k n} (h : neighbour m d k = some n) : (m.read n).isSome := by
  unfold neighbour at h
  cases hr : m.read k <;> simp only [hr] at h
  · cases h
  · cases d <;> exact Memory.follow_isSome h

/-- Keys that LT holds, without repeats, are at most |LT|. -/
theorem present_bound {m : Memory} {l : List LocKey} (hn : l.Nodup) (hp : ∀ k ∈ l, (m.read k).isSome) :
    l.length ≤ m.length := by
  have : l ⊆ m.map (·.key) := by
    intro k hk
    obtain ⟨r, hr⟩ := Option.isSome_iff_exists.mp (hp k hk)
    obtain ⟨h1, h2⟩ := Memory.read_some hr
    exact List.mem_map.mpr ⟨r, h1, h2⟩
  have := (hn.subperm this).length_le
  simpa using this

/-- CHAIN of a missing key. -/
theorem chainFrom_missing {m : Memory} {k : LocKey} (room : Nat) (h : m.read k = none) :
    chainFrom m room (some k) = some [] := by
  unfold chainFrom
  rw [h]

/-- CHAIN of a key LT holds: the key, then the chain of its parent, or a fault at the bound. -/
theorem chainFrom_present {m : Memory} {k : LocKey} {r : LocRecord} (room : Nat) (h : m.read k = some r) :
    chainFrom m room (some k) =
      match room with
      | 0 => none
      | room + 1 => (chainFrom m room (parentOf m r)).map (k :: ·) := by
  rw [chainFrom.eq_def]
  simp only [h] <;> cases room <;> rfl

/-- Two allowances that both suffice give the same chain. -/
theorem chainFrom_det {m : Memory} : ∀ {n n' : Nat} {x : Option LocKey} {c c' : List LocKey},
    chainFrom m n x = some c → chainFrom m n' x = some c' → c = c' := by
  intro n
  induction n with
  | zero =>
    intro n' x c c' h h'
    cases x with
    | none => simp [chainFrom] at h h'; simp_all
    | some k =>
      unfold chainFrom at h h'
      cases hr : m.read k with
      | none => simp [hr] at h h'; simp_all
      | some r => simp [hr] at h
  | succ n ih =>
    intro n' x c c' h h'
    cases x with
    | none => simp [chainFrom] at h h'; simp_all
    | some k =>
      unfold chainFrom at h h'
      cases hr : m.read k with
      | none => simp [hr] at h h'; simp_all
      | some r =>
        cases n' with
        | zero => simp [hr] at h'
        | succ n' =>
          simp [hr] at h h'
          obtain ⟨a, ha, rfl⟩ := h
          obtain ⟨a', ha', rfl⟩ := h'
          rw [ih ha ha']

/-- One more step of an offset walk. -/
theorem reachIn_snoc {m d} : ∀ {n a b c}, reachIn m d n a b → neighbour m d b = some c → reachIn m d (n+1) a c := by
  intro n
  induction n with
  | zero => intro a b c h hn; cases h; exact ⟨c, hn, rfl⟩
  | succ n ih => intro a b c h hn; obtain ⟨x, h1, h2⟩ := h; exact ⟨x, h1, ih h2 hn⟩

/-- The last step of an offset walk. -/
theorem reachIn_pred {m d} : ∀ {n a c}, reachIn m d (n+1) a c → ∃ b, reachIn m d n a b ∧ neighbour m d b = some c := by
  intro n
  induction n with
  | zero => intro a c h; obtain ⟨x, h1, h2⟩ := h; cases h2; exact ⟨a, rfl, h1⟩
  | succ n ih => intro a c h; obtain ⟨x, h1, h2⟩ := h; obtain ⟨b, h3, h4⟩ := ih h2; exact ⟨b, ⟨x, h1, h3⟩, h4⟩

end Sys2Proof.Machine
end

