-- ==== Sys2Proof/Laws/Memory.lean ====
section
/-! SUPPORT. LT and its canonical form (20_memory R46 and R47): the block writes no memory, so the form holds at reset and after
every instruction, and in that form every record is the one read at its key. -/

namespace Sys2Proof.Machine

open Sys2Proof

/-- The order of keys is irreflexive. -/
theorem LocKey.before_irrefl (k : LocKey) : LocKey.before k k = false := by
  simp [LocKey.before]

/-- In canonical form the record read at a record's key is that record. -/
theorem Memory.read_of_mem {m : Memory} (w : m.wf) {r : LocRecord} (h : r ∈ m) : m.read r.key = some r := by
  induction m with
  | nil => cases h
  | cons a m ih =>
    obtain ⟨h1, h2⟩ := List.pairwise_cons.mp w
    rcases List.mem_cons.mp h with rfl | h
    · simp [Memory.read]
    · have hne : (a.key == r.key) = false := by
        rw [beq_eq_false_iff_ne]
        intro e
        have := h1 r h
        rw [e, LocKey.before_irrefl] at this
        cases this
      have e : Memory.read (a :: m) r.key = Memory.read m r.key := by simp [Memory.read, hne]
      rw [e]
      exact ih h2 h

/-- LT at reset is in canonical form. -/
theorem reset_memory_wf : Memory.wf State.reset.lt := List.Pairwise.nil

/-- No instruction writes LT. -/
theorem exec_memory {i : Instr} {s t : State} (h : exec i s = .next t) : t.lt = s.lt := by
  rcases exec_next h with ⟨-, rfl⟩ | ⟨b, -, -, rfl⟩ | ⟨-, -, rfl⟩ | ⟨f, v, bt, -, -, rfl⟩ | ⟨-, -, -, _, rfl⟩ |
    ⟨-, -, -, _, rfl⟩ | ⟨-, -, -, -, h⟩
  · simp
  · obtain ⟨-, -, -, -, h, -⟩ := bitStep_frame b s
    exact h
  · unfold endOfStream
    dsimp only
    split <;> simp
  · exact (GdecStep.process (Group.of f v bt) s).lt
  · simp
  · simp
  · exact h.lt

/-- Every instruction keeps the canonical form of LT. -/
theorem exec_memory_wf {i : Instr} {s t : State} (h : exec i s = .next t) (w : Memory.wf s.lt) : Memory.wf t.lt := by
  rw [exec_memory h]
  exact w

end Sys2Proof.Machine
end

