-- ==== Sys2Proof/Laws/Ps.lean ====
section
/-! SUPPORT. What the PS unit can do (43_group_types R108 and R109), said once. -/

namespace Sys2Proof.Machine

open Sys2Proof

/-! ## The order of history entries -/

/-- Count and recency as one number: the order of history entries. -/
def PsEntry.weight (e : PsEntry) : Nat := e.count.toNat * 2 ^ 32 + e.recency.toNat

theorem PsEntry.below_iff (a b : PsEntry) : a.below b = true ↔ a.weight < b.weight := by
  have := a.recency.isLt
  have := b.recency.isLt
  simp only [PsEntry.below, PsEntry.weight, Bool.or_eq_true, Bool.and_eq_true, decide_eq_true_eq, beq_iff_eq]
  rw [← BitVec.toNat_inj]
  omega

/-- The weight orders as the rule says: by count, then by recency. -/
theorem PsEntry.weight_le_iff (a b : PsEntry) :
    a.weight ≤ b.weight ↔ a.count.toNat < b.count.toNat ∨ (a.count = b.count ∧ a.recency.toNat ≤ b.recency.toNat) := by
  have := a.recency.isLt
  have := b.recency.isLt
  simp only [PsEntry.weight]
  rw [← BitVec.toNat_inj]
  omega

theorem exists_lightest : ∀ (l : List PsEntry), l ≠ [] → ∃ e ∈ l, ∀ x ∈ l, e.weight ≤ x.weight
  | [], h => absurd rfl h
  | [e], _ => ⟨e, by simp⟩
  | e :: e' :: l, _ => by
    obtain ⟨a, ha, hm⟩ := exists_lightest (e' :: l) (by simp)
    rcases Nat.le_total e.weight a.weight with h | h
    · refine ⟨e, by simp, fun x hx => ?_⟩
      rcases List.mem_cons.mp hx with rfl | hx
      · exact Nat.le_refl _
      · exact Nat.le_trans h (hm x hx)
    · refine ⟨a, List.mem_cons_of_mem _ ha, fun x hx => ?_⟩
      rcases List.mem_cons.mp hx with rfl | hx
      · exact h
      · exact hm x hx

theorem exists_heaviest : ∀ (l : List PsEntry), l ≠ [] → ∃ e ∈ l, ∀ x ∈ l, x.weight ≤ e.weight
  | [], h => absurd rfl h
  | [e], _ => ⟨e, by simp⟩
  | e :: e' :: l, _ => by
    obtain ⟨a, ha, hm⟩ := exists_heaviest (e' :: l) (by simp)
    rcases Nat.le_total a.weight e.weight with h | h
    · refine ⟨e, by simp, fun x hx => ?_⟩
      rcases List.mem_cons.mp hx with rfl | hx
      · exact Nat.le_refl _
      · exact Nat.le_trans (hm x hx) h
    · refine ⟨a, List.mem_cons_of_mem _ ha, fun x hx => ?_⟩
      rcases List.mem_cons.mp hx with rfl | hx
      · exact h
      · exact hm x hx

/-! ## The chosen entry -/

theorem psPick_mem {ts : List Nat} (h : ts ≠ []) : psPick ts ∈ ts := by
  unfold psPick
  split
  · simp
  · have hl : 0 < ts.length := List.length_pos_iff.mpr h
    rw [List.getD_eq_getElem _ _ (Nat.mod_lt _ hl)]
    exact List.getElem_mem _

theorem mem_psWeakest {hist : List PsEntry} {i : Nat} :
    i ∈ psWeakest hist ↔ ∃ e, hist[i]? = some e ∧ ∀ x ∈ hist, e.weight ≤ x.weight := by
  have (e x : PsEntry) : (!x.below e) = true ↔ e.weight ≤ x.weight := by
    rw [Bool.not_eq_true', ← Bool.not_eq_true, PsEntry.below_iff]
    omega
  simp only [psWeakest, List.mem_map, List.mem_filter, List.all_eq_true, this, Prod.exists,
    List.mem_zipIdx_iff_getElem?, exists_eq_right]

theorem mem_psStrongest {hist : List PsEntry} {i : Nat} :
    i ∈ psStrongest hist ↔ ∃ e, hist[i]? = some e ∧ ∀ x ∈ hist, x.weight ≤ e.weight := by
  have (e x : PsEntry) : (!e.below x) = true ↔ x.weight ≤ e.weight := by
    rw [Bool.not_eq_true', ← Bool.not_eq_true, PsEntry.below_iff]
    omega
  simp only [psStrongest, List.mem_map, List.mem_filter, List.all_eq_true, this, Prod.exists,
    List.mem_zipIdx_iff_getElem?, exists_eq_right]

/-- The entry a full history loses is one that no entry is weaker than. -/
theorem psPick_weakest {hist : List PsEntry} (h : hist ≠ []) :
    ∃ e, hist[psPick (psWeakest hist)]? = some e ∧ ∀ x ∈ hist, e.weight ≤ x.weight := by
  obtain ⟨e, he, hm⟩ := exists_lightest hist h
  obtain ⟨i, hi⟩ := List.mem_iff_getElem?.mp he
  exact mem_psWeakest.mp (psPick_mem (List.ne_nil_of_mem (mem_psWeakest.mpr ⟨e, hi, hm⟩)))

/-- The entry shown is one that no entry is stronger than. -/
theorem psPick_strongest {hist : List PsEntry} (h : hist ≠ []) :
    ∃ e, hist[psPick (psStrongest hist)]? = some e ∧ ∀ x ∈ hist, x.weight ≤ e.weight := by
  obtain ⟨e, he, hm⟩ := exists_heaviest hist h
  obtain ⟨i, hi⟩ := List.mem_iff_getElem?.mp he
  exact mem_psStrongest.mp (psPick_mem (List.ne_nil_of_mem (mem_psStrongest.mpr ⟨e, hi, hm⟩)))

theorem psRoom_short {hist : List PsEntry} (h : hist.length ≠ 8) : psRoom hist = hist := if_neg h

/-- A full history loses one entry, and no entry was weaker. -/
theorem psRoom_full {hist : List PsEntry} (h : hist.length = 8) :
    ∃ pre e post, hist = pre ++ e :: post ∧ psRoom hist = pre ++ post ∧ ∀ x ∈ hist, e.weight ≤ x.weight := by
  obtain ⟨e, he, hm⟩ := psPick_weakest (List.ne_nil_of_length_pos (by omega : 0 < hist.length))
  obtain ⟨hl, hv⟩ := List.getElem?_eq_some_iff.mp he
  refine ⟨hist.take (psPick (psWeakest hist)), e, hist.drop (psPick (psWeakest hist) + 1), ?_, ?_, hm⟩
  · rw [← hv, List.getElem_cons_drop, List.take_append_drop]
  · exact (if_pos h).trans (List.eraseIdx_eq_take_drop_succ _ _)

/-! ## The write -/

theorem psComplete_iff {cur : Vector Cell 8} {name : Vector Byte 8} :
    psComplete cur = some name ↔ ∀ c : Fin 8, cur[c] = some name[c] := by
  constructor
  · intro h
    simp only [psComplete, Option.bind_eq_bind, Option.bind_eq_some_iff, Option.pure_def, Option.some.injEq] at h
    obtain ⟨c0, h0, c1, h1, c2, h2, c3, h3, c4, h4, c5, h5, c6, h6, c7, h7, rfl⟩ := h
    intro c
    fin_cases c <;> assumption
  · intro h
    have h0 : cur[0] = some name[0] := h 0
    have h1 : cur[1] = some name[1] := h 1
    have h2 : cur[2] = some name[2] := h 2
    have h3 : cur[3] = some name[3] := h 3
    have h4 : cur[4] = some name[4] := h 4
    have h5 : cur[5] = some name[5] := h 5
    have h6 : cur[6] = some name[6] := h 6
    have h7 : cur[7] = some name[7] := h 7
    simp only [psComplete, h0, h1, h2, h3, h4, h5, h6, h7, Option.bind_eq_bind, Option.bind_some, Option.pure_def]
    congr 1
    refine Vector.ext fun i hi => ?_
    interval_cases i <;> rfl

theorem psCells_get (cur : Vector Cell 8) (s : BitVec 2) (c0 c1 : Byte) (c : Fin 8) :
    (psCells cur s c0 c1)[c] =
      if c.val = 2 * s.toNat then some c0 else if c.val = 2 * s.toNat + 1 then some c1 else cur[c] := by
  simp only [psCells, Fin.getElem_fin, Vector.getElem_set]
  split
  · rw [if_neg (by omega), if_pos (by omega)]
  · split
    · rw [if_pos (by omega)]
    · rw [if_neg (by omega), if_neg (by omega)]

theorem write_cur (u : PsUnit) (s : BitVec 2) (c0 c1 : Byte) : (u.write s c0 c1).cur = psCells u.cur s c0 c1 := by
  unfold PsUnit.write
  dsimp only
  split <;> rfl

theorem write_incomplete {u : PsUnit} {s : BitVec 2} {c0 c1 : Byte} (h : psComplete (psCells u.cur s c0 c1) = none) :
    u.write s c0 c1 = { u with cur := psCells u.cur s c0 c1 } := by
  simp only [PsUnit.write, h]

theorem write_complete {u : PsUnit} {s : BitVec 2} {c0 c1 : Byte} {name : Vector Byte 8}
    (h : psComplete (psCells u.cur s c0 c1) = some name) :
    u.write s c0 c1 = PsUnit.vote name { u with cur := psCells u.cur s c0 c1 } := by
  simp only [PsUnit.write, h]

theorem vote_known {u : PsUnit} {name : Vector Byte 8} (h : ∃ e ∈ u.hist, e.value = name) :
    u.vote name =
      { u with
        stamp := u.stamp + 1
        hist := u.hist.map fun e =>
          if e.value = name then { e with count := satIncr e.count, recency := u.stamp + 1 } else e } := by
  have : (u.hist.any fun e => e.value == name) = true := by simpa using h
  simp only [PsUnit.vote, this, if_true]

theorem vote_new {u : PsUnit} {name : Vector Byte 8} (h : ∀ e ∈ u.hist, e.value ≠ name) :
    u.vote name = { u with stamp := u.stamp + 1, hist := psRoom u.hist ++ [⟨name, 1, u.stamp + 1⟩] } := by
  have : (u.hist.any fun e => e.value == name) = false := by simpa using h
  simp only [PsUnit.vote, this, Bool.false_eq_true, if_false]

theorem vote_cases (u : PsUnit) (name : Vector Byte 8) :
    (∃ e ∈ u.hist, e.value = name) ∨ ∀ e ∈ u.hist, e.value ≠ name := by
  by_cases h : ∃ e ∈ u.hist, e.value = name
  · exact .inl h
  · exact .inr fun e he hv => h ⟨e, he, hv⟩

theorem psRoom_length (hist : List PsEntry) (h : hist.length ≤ 8) : (psRoom hist).length ≤ 7 := by
  by_cases h8 : hist.length = 8
  · obtain ⟨pre, e, post, h1, h2, -⟩ := psRoom_full h8
    rw [h2]
    rw [h1] at h8
    simp at h8 ⊢
    omega
  · rw [psRoom_short h8]
    omega

theorem psRoom_sublist (hist : List PsEntry) : (psRoom hist).Sublist hist := by
  unfold psRoom
  split
  · exact List.eraseIdx_sublist _ _
  · exact List.Sublist.refl _

/-- The bound and the distinct values of a history are kept by a write (10_state R32). -/
theorem write_ok {u : PsUnit} (h : u.Ok) (s : BitVec 2) (c0 c1 : Byte) : (u.write s c0 c1).Ok := by
  cases hc : psComplete (psCells u.cur s c0 c1) with
  | none => rw [write_incomplete hc]; exact h
  | some name =>
    rw [write_complete hc]
    rcases vote_cases { u with cur := psCells u.cur s c0 c1 } name with hk | hk
    · rw [vote_known hk]
      refine ⟨by simpa using h.1, ?_⟩
      refine List.pairwise_map.mpr (h.2.imp fun hab => ?_)
      split <;> split <;> exact hab
    · rw [vote_new hk]
      refine ⟨?_, ?_⟩
      · have := psRoom_length u.hist h.1
        simp only [List.length_append, List.length_singleton, Config.psHistCap]
        omega
      · refine List.pairwise_append.mpr ⟨h.2.sublist (psRoom_sublist _), by simp, fun a ha b hb => ?_⟩
        rw [List.mem_singleton.mp hb]
        exact hk a ((psRoom_sublist _).subset ha)

theorem fresh_ok : PsUnit.fresh.Ok := by simp [PsUnit.Ok, PsUnit.fresh]

end Sys2Proof.Machine
end

