-- ==== Sys2Proof/Tests/Slice0.lean ====
section
/-! SUPPORT. Tests and witnesses. Expected values are those of spec/95_test_vectors (its section is named at each test) or are
worked out by hand from the rule named; `witness_<Name>` meets the hypotheses of the obligation `<Name>`. -/

namespace Sys2Proof.Tests

open Sys2Proof Sys2Proof.Machine

set_option maxRecDepth 20000
set_option synthInstance.maxSize 1000
set_option synthInstance.maxHeartbeats 200000

/-! ## Helpers -/

/-- The parameters of 95_test_vectors section 0. -/
def p0 : Params := ⟨2, 1, 1, .pos, .neg, []⟩

/-- The machine of 95_test_vectors section 0, no table loaded. -/
def s0 : State := State.boot p0 []

/-- A projection of the next state of an outcome, none if it stops. -/
def see {α : Type} (f : State → α) : Host.Outcome State Fault Refusal → Option α
  | .next t => some (f t)
  | .fault _ => none
  | .refused _ => none

/-- The next state of an outcome, or a given one. -/
def next (d : State) : Host.Outcome State Fault Refusal → State
  | .next t => t
  | .fault _ => d
  | .refused _ => d

/-- A group with all blocks valid. -/
def grp (b0 b1 b2 b3 : Word) (bt : BitTime) : Group := Group.of #v[true, true, true, true] #v[b0, b1, b2, b3] bt

/-- The state after an all-valid GROUP_IN. -/
def after (s : State) (b0 b1 b2 b3 : Word) (bt : BitTime) : State :=
  next s (exec (.groupIn #v[true, true, true, true] #v[b0, b1, b2, b3] bt) s)

/-- The fields of a group row with all blocks valid. -/
def fields (tp : Bool) (pty x : BitVec 5) (b2 b3 : Word) (bt : BitTime) : GroupFields :=
  ⟨tp, pty, x, true, true, true, 0xF202, b2, b3, bt⟩

/-- The slot 8A. -/
def slot8 : Slot := ⟨8, .A⟩

/-- The AID of 95_test_vectors V-ODA-1 with a TMC instance. -/
def tmcSlot (t : TmcInst) : OdaSlot := ⟨0xCD46, some (.tmc t)⟩

/-- `s` with a TMC instance in slot 8A. -/
def withTmc (s : State) (t : TmcInst) : State :=
  { s with st := { s.st with slot := s.st.slot.set (slotIndex slot8) (some (tmcSlot t)) } }

/-- A location key of 95_test_vectors section 8. -/
def key (lcd : Word) : LocKey := ⟨1, 1, lcd⟩

/-- A location record without names. -/
def locRec (lcd : Word) (body : LocBody) (area : LocRef := none) : LocRecord := ⟨key lcd, .point, 0, 0, [], area, body⟩

/-- The fields of a segment with these parents. -/
def seg (proad pseg : LocRef) : LocBody := .segment none none none proad pseg

/-- The fields of a point. -/
def pt (road pos neg seg : LocRef) : LocBody := .point road pos neg seg 0 0 false

/-- The V-LOC table of 95_test_vectors section 8. -/
def vloc : Memory :=
  [locRec 10 .area, locRec 11 .area (some 10), locRec 100 .road (some 11), locRec 200 (seg (some 100) none) (some 11),
    locRec 201 (seg (some 100) none), locRec 301 (pt (some 100) (some 302) none (some 200)),
    locRec 302 (pt (some 100) (some 303) (some 301) (some 200)), locRec 303 (pt (some 100) none (some 302) (some 200)),
    locRec 311 (pt (some 100) none none (some 201))]

/-- The cyclic table of 95_test_vectors V-LOC-5. -/
def vcyc : Memory :=
  [locRec 1 (seg none (some 2)), locRec 2 (seg none (some 1)), locRec 3 (pt none (some 4) (some 4) none),
    locRec 4 (pt none (some 3) (some 3) none), locRec 5 (pt none none none none)]

/-- The machine with the V-LOC table. -/
def sLoc : State := State.boot p0 vloc

/-- The machine with the cyclic table. -/
def sCyc : State := State.boot p0 vcyc

/-! ## WellFormed: each check refuses an ill-formed term -/

theorem test_wf_refuses_a_slot_below_5A : Instr.wf (.tmcSingle ⟨4, .A⟩ 0 false false 1 700 0x1234 0) = false := by decide

theorem test_wf_refuses_a_slot_above_13A : Instr.wf (.alertcL0 ⟨14, .A⟩ 1) = false := by decide

theorem test_wf_refuses_a_version_B_slot : Instr.wf (.tmcTuningV4 ⟨8, .B⟩ 0x4142 0x4344) = false := by decide

theorem test_wf_accepts_the_boundary_slots :
    Instr.wf (.tmcTuning ⟨5, .A⟩ 0 0 0) = true ∧ Instr.wf (.tmcTuning ⟨13, .A⟩ 0 0 0) = true := by decide

/-! ## Decoding, from words written out -/

/-- 30_encoding R60: the command words, op in bits 3..0. -/
theorem test_decode_commands :
    decode (.command (.ofWord 0x01)) = .ok .reset ∧ decode (.command (.ofWord 0x02)) = .ok (.bit false) ∧
      decode (.command (.ofWord 0x12)) = .ok (.bit true) ∧ decode (.command (.ofWord 0x03)) = .ok .eos ∧
      decode (.command (.ofWord 0x05)) = .ok .snapshot ∧ decode (.command (.ofWord 0x00)) = .ok .reserved0 ∧
      decode (.command (.ofWord 0x09)) = .ok .reserved9 ∧ decode (.command (.ofWord 0x0A)) = .ok .reservedA ∧
      decode (.command (.ofWord 0x0B)) = .ok .reservedB ∧ decode (.command (.ofWord 0x0C)) = .ok .reservedC ∧
      decode (.command (.ofWord 0x0D)) = .ok .reservedD ∧ decode (.command (.ofWord 0x0E)) = .ok .reservedE ∧
      decode (.command (.ofWord 0x1F)) = .ok .reservedF := by decide

/-- 95_test_vectors section 0: 0xB4 is a GROUP_IN with flags 1101, 0x74 with 1110, 0xC4 with 0011. -/
theorem test_decode_groupIn :
    decode (.command (.ofWord 0xB4)) = .ok (.groupIn #v[true, true, false, true] #v[0, 0, 0, 0] 0) ∧
      decode (.command (.ofWord 0x74)) = .ok (.groupIn #v[true, true, true, false] #v[0, 0, 0, 0] 0) ∧
      decode (.command (.ofWord 0xC4)) = .ok (.groupIn #v[false, false, true, true] #v[0, 0, 0, 0] 0) := by decide

/-- 95_test_vectors section 0: the location words 0x06, 0x16, 0x07, 0x08 and 0x18 with their operands. -/
theorem test_decode_queries :
    decode (.command { Frame.ofWord 0x06 with keyA := key 301, extent := 5 }) = .ok (.locOffset .pos (key 301) 5) ∧
      decode (.command { Frame.ofWord 0x16 with keyA := key 302, extent := 1 }) = .ok (.locOffset .neg (key 302) 1) ∧
      decode (.command { Frame.ofWord 0x07 with keyA := key 301 }) = .ok (.locEnclosing (key 301) none) ∧
      decode (.command { Frame.ofWord 0x07 with keyA := key 301, keyB := key 303, keyBValid := true }) =
        .ok (.locEnclosing (key 301) (some (key 303))) ∧
      decode (.command { Frame.ofWord 0x08 with keyA := key 301, keyB := key 303 }) =
        .ok (.locCompare false (key 301) (key 303)) ∧
      decode (.command { Frame.ofWord 0x18 with keyA := key 301, keyB := key 303 }) =
        .ok (.locCompare true (key 301) (key 303)) := by decide

/-- 30_encoding R66 and R68: block 1 of types 0A to 7B, with TP, PTY and X written out. -/
theorem test_decode_group_low :
    decode (.group (grp 0xF202 0x0408 0x5C66 0x2043 104)) = .ok (.group0A (fields true 0 8 0x5C66 0x2043 104)) ∧
      decode (.group (grp 0xF202 0x0C08 0 0 0)) = .ok (.group0B (fields true 0 8 0 0 0)) ∧
      decode (.group (grp 0xF202 0x1010 0 0 0)) = .ok (.group1A (fields false 0 16 0 0 0)) ∧
      decode (.group (grp 0xF202 0x1BE1 0 0 0)) = .ok (.group1B (fields false 31 1 0 0 0)) ∧
      decode (.group (grp 0xF202 0x2001 0 0 0)) = .ok (.group2A (fields false 0 1 0 0 0)) ∧
      decode (.group (grp 0xF202 0x2820 0 0 0)) = .ok (.group2B (fields false 1 0 0 0 0)) ∧
      decode (.group (grp 0xF202 0x3010 0 0 0)) = .ok (.group3A (fields false 0 16 0 0 0)) ∧
      decode (.group (grp 0xF202 0x3A00 0 0 0)) = .ok (.group3B (fields false 16 0 0 0 0)) ∧
      decode (.group (grp 0xF202 0x4001 0 0 0)) = .ok (.group4A (fields false 0 1 0 0 0)) ∧
      decode (.group (grp 0xF202 0x4C1F 0 0 0)) = .ok (.group4B (fields true 0 31 0 0 0)) ∧
      decode (.group (grp 0xF202 0x5000 0 0 0)) = .ok (.group5A (fields false 0 0 0 0 0)) ∧
      decode (.group (grp 0xF202 0x5800 0 0 0)) = .ok (.group5B (fields false 0 0 0 0 0)) ∧
      decode (.group (grp 0xF202 0x6000 0 0 0)) = .ok (.group6A (fields false 0 0 0 0 0)) ∧
      decode (.group (grp 0xF202 0x6800 0 0 0)) = .ok (.group6B (fields false 0 0 0 0 0)) ∧
      decode (.group (grp 0xF202 0x700D 0 0 0)) = .ok (.group7A (fields false 0 13 0 0 0)) ∧
      decode (.group (grp 0xF202 0x7800 0 0 0)) = .ok (.group7B (fields false 0 0 0 0 0)) := by decide

/-- 30_encoding R66 and R68: block 1 of types 8A to 15B. -/
theorem test_decode_group_high :
    decode (.group (grp 0xF202 0x8008 0 0 0)) = .ok (.group8A (fields false 0 8 0 0 0)) ∧
      decode (.group (grp 0xF202 0x8808 0 0 0)) = .ok (.group8B (fields false 0 8 0 0 0)) ∧
      decode (.group (grp 0xF202 0x9000 0 0 0)) = .ok (.group9A (fields false 0 0 0 0 0)) ∧
      decode (.group (grp 0xF202 0x9800 0 0 0)) = .ok (.group9B (fields false 0 0 0 0 0)) ∧
      decode (.group (grp 0xF202 0xA000 0 0 0)) = .ok (.group10A (fields false 0 0 0 0 0)) ∧
      decode (.group (grp 0xF202 0xA800 0 0 0)) = .ok (.group10B (fields false 0 0 0 0 0)) ∧
      decode (.group (grp 0xF202 0xB000 0 0 0)) = .ok (.group11A (fields false 0 0 0 0 0)) ∧
      decode (.group (grp 0xF202 0xB800 0 0 0)) = .ok (.group11B (fields false 0 0 0 0 0)) ∧
      decode (.group (grp 0xF202 0xC000 0 0 0)) = .ok (.group12A (fields false 0 0 0 0 0)) ∧
      decode (.group (grp 0xF202 0xC800 0 0 0)) = .ok (.group12B (fields false 0 0 0 0 0)) ∧
      decode (.group (grp 0xF202 0xD000 0 0 0)) = .ok (.group13A (fields false 0 0 0 0 0)) ∧
      decode (.group (grp 0xF202 0xD800 0 0 0)) = .ok (.group13B (fields false 0 0 0 0 0)) ∧
      decode (.group (grp 0xF202 0xE003 0 0 0)) = .ok (.group14A (fields false 0 3 0 0 0)) ∧
      decode (.group (grp 0xF202 0xE818 0 0 0)) = .ok (.group14B (fields false 0 24 0 0 0)) ∧
      decode (.group (grp 0xF202 0xF400 0 0 0)) = .ok (.group15A (fields true 0 0 0 0 0)) ∧
      decode (.group (grp 0xF202 0xF818 0 0 0)) = .ok (.group15B (fields false 0 24 0 0 0)) := by decide

/-- 42_group_dispatch R102: a group without a valid block 1 has no type. -/
theorem test_decode_group_without_block_1 :
    decode (.group (Group.of #v[true, false, true, true] #v[0xF202, 0x0408, 0, 0] 0)) = .error .block1Invalid := by decide

/-- 30_encoding R69, the groups of 95_test_vectors P3 and V-TMC-3. -/
theorem test_decode_tmc :
    decode (.tmc slot8 (grp 0xF202 0x8005 0x9073 0x012D 208)) = .ok (.tmcFirst slot8 5 false 2 115 301) ∧
      decode (.tmc slot8 (grp 0xF202 0x8005 0x51A4 0xC363 312)) = .ok (.tmcSubsequent slot8 5 true 1 0x1A4 0xC363 312) ∧
      decode (.tmc slot8 (grp 0xF202 0x8005 0x1150 0xE000 520)) = .ok (.tmcSubsequent slot8 5 false 1 0x150 0xE000 520) ∧
      decode (.tmc slot8 (grp 0xF202 0x8008 0x0ABC 0x1234 416)) =
        .ok (.tmcSingle slot8 0 false false 1 700 0x1234 416) ∧
      decode (.tmc slot8 (grp 0xF202 0x8014 0x4142 0x4344 0)) = .ok (.tmcTuning slot8 4 0x4142 0x4344) ∧
      decode (.tmc slot8 (grp 0xF202 0x3010 0 0xCD46 0)) = .error .announcement ∧
      decode (.tmc slot8 (Group.of #v[true, true, false, true] #v[0xF202, 0x8005, 0, 0xC363] 0)) =
        .error .blocksMissing := by decide

/-- The bits of a number, most significant first. -/
def bits (n x : Nat) : List Bool := bitsMsb n x

/-- 30_encoding R73 and 95_test_vectors P3: the records (1, 5), (2, 12), (3, 12), (6, 0x2A) and others, bit by bit. -/
theorem test_decode_records :
    decode (.record slot8 (bits 7 0b0000011)) = .ok (.alertcL0 slot8 3) ∧
      decode (.record slot8 (bits 7 0b0001101)) = .ok (.alertcL1 slot8 5) ∧
      decode (.record slot8 (bits 9 0b001001100)) = .ok (.alertcL2 slot8 12) ∧
      decode (.record slot8 (bits 9 0b001101100)) = .ok (.alertcL3 slot8 12) ∧
      decode (.record slot8 (bits 9 0b010010001)) = .ok (.alertcL4 slot8 17) ∧
      decode (.record slot8 (bits 12 0b010110000001)) = .ok (.alertcL5 slot8 129) ∧
      decode (.record slot8 (bits 12 0b011000101010)) = .ok (.alertcL6 slot8 0x2A) ∧
      decode (.record slot8 (bits 12 0b011100000001)) = .ok (.alertcL7 slot8 1) ∧
      decode (.record slot8 (bits 12 0b100010000000)) = .ok (.alertcL8 slot8 128) ∧
      decode (.record slot8 (bits 15 0b100110000000001)) = .ok (.alertcL9 slot8 1025) ∧
      decode (.record slot8 (bits 20 0b10101000000000000001)) = .ok (.alertcL10 slot8 0x8001) ∧
      decode (.record slot8 (bits 20 0b10110000000000000001)) = .ok (.alertcL11 slot8 1) ∧
      decode (.record slot8 (bits 20 0b11001111111111111111)) = .ok (.alertcL12 slot8 0xFFFF) ∧
      decode (.record slot8 (bits 20 0b11010000000100000000)) = .ok (.alertcL13 slot8 256) ∧
      decode (.record slot8 (bits 4 0b1110)) = .ok (.alertcL14 slot8) ∧
      decode (.record slot8 (bits 4 0b1111)) = .ok (.alertcL15 slot8) := by decide

/-- 44_tmc R135: a record that is not complete, and one bit too many. -/
theorem test_decode_record_refused :
    decode (.record slot8 (bits 6 0b000110)) = .error .incompleteRecord ∧
      decode (.record slot8 (bits 5 0b11100)) = .error .trailingBits := by decide

/-- 43_group_types R122: the 14A variant in X[3:0]. -/
theorem test_decode_eon :
    decode (.eon 0 0xC201 1) = .ok (.eon14aV0 0xC201 1) ∧ decode (.eon 1 0xC201 1) = .ok (.eon14aV1 0xC201 1) ∧
      decode (.eon 2 0xC201 1) = .ok (.eon14aV2 0xC201 1) ∧ decode (.eon 3 0xC201 1) = .ok (.eon14aV3 0xC201 1) ∧
      decode (.eon 4 0xC201 1) = .ok (.eon14aV4 0xC201 1) ∧ decode (.eon 5 0xC201 1) = .ok (.eon14aV5 0xC201 1) ∧
      decode (.eon 6 0xC201 1) = .ok (.eon14aV6 0xC201 1) ∧ decode (.eon 7 0xC201 1) = .ok (.eon14aV7 0xC201 1) ∧
      decode (.eon 8 0xC201 1) = .ok (.eon14aV8 0xC201 1) ∧ decode (.eon 9 0xC201 1) = .ok (.eon14aV9 0xC201 1) ∧
      decode (.eon 10 0xC201 1) = .ok (.eon14aV10 0xC201 1) ∧ decode (.eon 11 0xC201 1) = .ok (.eon14aV11 0xC201 1) ∧
      decode (.eon 12 0xC201 1) = .ok (.eon14aV12 0xC201 1) ∧ decode (.eon 13 0xC201 1) = .ok (.eon14aV13 0xC201 1) ∧
      decode (.eon 14 0xC201 1) = .ok (.eon14aV14 0xC201 1) ∧ decode (.eon 15 0xC201 1) = .ok (.eon14aV15 0xC201 1) := by
  decide

/-- 44_tmc R141: the tuning variant in X[3:0]. -/
theorem test_decode_tuning :
    decode (.tuning slot8 0 1 2) = .ok (.tmcTuningV0 slot8 1 2) ∧ decode (.tuning slot8 1 1 2) = .ok (.tmcTuningV1 slot8 1 2) ∧
      decode (.tuning slot8 2 1 2) = .ok (.tmcTuningV2 slot8 1 2) ∧
      decode (.tuning slot8 3 1 2) = .ok (.tmcTuningV3 slot8 1 2) ∧
      decode (.tuning slot8 4 1 2) = .ok (.tmcTuningV4 slot8 1 2) ∧
      decode (.tuning slot8 5 1 2) = .ok (.tmcTuningV5 slot8 1 2) ∧
      decode (.tuning slot8 6 1 2) = .ok (.tmcTuningV6 slot8 1 2) ∧
      decode (.tuning slot8 7 1 2) = .ok (.tmcTuningV7 slot8 1 2) ∧
      decode (.tuning slot8 8 1 2) = .ok (.tmcTuningV8 slot8 1 2) ∧
      decode (.tuning slot8 9 1 2) = .ok (.tmcTuningV9 slot8 1 2) ∧
      decode (.tuning slot8 10 1 2) = .ok (.tmcTuningV10 slot8 1 2) ∧
      decode (.tuning slot8 11 1 2) = .ok (.tmcTuningV11 slot8 1 2) ∧
      decode (.tuning slot8 12 1 2) = .ok (.tmcTuningV12 slot8 1 2) ∧
      decode (.tuning slot8 13 1 2) = .ok (.tmcTuningV13 slot8 1 2) ∧
      decode (.tuning slot8 14 1 2) = .ok (.tmcTuningV14 slot8 1 2) ∧
      decode (.tuning slot8 15 1 2) = .ok (.tmcTuningV15 slot8 1 2) := by decide

/-- The host's table words: a command, a group type and a TMC form. -/
theorem test_decode_table_words :
    decodeTableWord 8 0x12 = some (.bit true) ∧
      decodeTableWord 16 0x0408 = some (.group0A ⟨true, 0, 8, false, true, true, 0, 0, 0, 0⟩) ∧
      decodeTableWord 24 0x080ABC = some (.tmcSingle slot8 0 false false 1 700 0 0) := by decide

/-! ## Commands -/

/-- V-BS-1: a bit enters at w[0] and BT counts it. -/
theorem test_bit_shifts :
    see (fun t => (t.sr, t.bt)) (exec (.bit true) { s0 with sr := 0x3FFFFFF, bt := 7 }) = some (0x3FFFFFF, 8) ∧
      see (fun t => t.sr) (exec (.bit false) { s0 with sr := 0x2000001 }) = some 2 := by decide

/-- V-BS-1: the 26th bit of 0x3C80802 matches position 0 and enters bucket 26. -/
theorem test_bit_records_a_match :
    see (fun t => (t.sr, t.hist[26], t.sync)) (exec (.bit false) { s0 with sr := 0x1E40401, bt := 25 }) =
      some (0x3C80802, [26], .unsynced) := by decide

/-- V-CMD-1: an illegal op code adds BAD_OP. -/
theorem test_reserved :
    see (fun t => (t.fault, t.bt)) (exec .reserved0 s0) = some (⟨true, false⟩, 0) ∧
      see (fun t => t.fault) (exec .reserved9 s0) = some ⟨true, false⟩ ∧
      see (fun t => t.fault) (exec .reservedA s0) = some ⟨true, false⟩ ∧
      see (fun t => t.fault) (exec .reservedB s0) = some ⟨true, false⟩ ∧
      see (fun t => t.fault) (exec .reservedC s0) = some ⟨true, false⟩ ∧
      see (fun t => t.fault) (exec .reservedD s0) = some ⟨true, false⟩ ∧
      see (fun t => t.fault) (exec .reservedE s0) = some ⟨true, false⟩ ∧
      see (fun t => t.fault) (exec .reservedF s0) = some ⟨true, false⟩ := by decide

/-- 70_reset_and_hazards R163: RESET clears FAULT, HALTED and BT, and keeps TUNED_FREQ. -/
theorem test_reset :
    see (fun t => (t.fault, t.halted, t.bt, t.tunedFreq))
        (exec .reset { s0 with fault := ⟨true, true⟩, halted := true, bt := 9, tunedFreq := some 87600 }) =
      some (⟨false, false⟩, false, 0, some 87600) := by decide

/-- V-EOS-1: EOS with no station emits EOS alone and halts; the next EOS is stuck. -/
theorem test_eos :
    see (fun t => (t.events, t.halted)) (exec .eos { s0 with bt := 5 }) = some ([⟨5, .eos⟩], true) ∧
      exec .eos { s0 with halted := true } = .fault .stuckHalted := by
  exact ⟨by decide, rfl⟩

/-- V-CMD-2: SNAPSHOT is accepted while halted. -/
theorem test_snapshot :
    see (fun t => (t.halted, t.bt)) (exec .snapshot { s0 with halted := true, bt := 3 }) = some (true, 3) := by decide

/-- V-GI-1 and V-PI-1: a group without a PI is suppressed, and the first PI tunes. -/
theorem test_groupIn :
    see (fun t => (t.events, t.st.unknown, t.suppress))
        (exec (.groupIn #v[false, false, false, false] #v[0, 0, 0, 0] 104) s0) = some ([], 0, true) ∧
      see (fun t => (t.events, t.st.gstat[0], t.st.pi, t.suppress))
        (exec (.groupIn #v[true, true, true, true] #v[0xF202, 0x0408, 0x5C66, 0x2043] 104) s0) =
      some ([⟨104, .tuned 0xF202⟩], 1, 0xF202, false) := by decide

/-- V-LOC-3. -/
theorem test_locOffset :
    see (·.reply) (exec (.locOffset .pos (key 301) 5) sLoc) = some (.key (some (key 303))) ∧
      see (·.reply) (exec (.locOffset .neg (key 303) 10) sLoc) = some (.key (some (key 301))) ∧
      see (·.reply) (exec (.locOffset .pos (key 301) 0) sLoc) = some (.key (some (key 301))) ∧
      see (·.reply) (exec (.locOffset .pos (key 999) 1) sLoc) = some (.key none) ∧
      see (·.reply) (exec (.locOffset .pos (key 3) 7) sCyc) = some (.key (some (key 4))) := by decide

/-- V-LOC-2 and V-LOC-5. -/
theorem test_locEnclosing :
    see (·.reply) (exec (.locEnclosing (key 301) (some (key 303))) sLoc) = some (.key (some (key 200))) ∧
      see (·.reply) (exec (.locEnclosing (key 301) (some (key 311))) sLoc) = some (.key (some (key 100))) ∧
      see (·.reply) (exec (.locEnclosing (key 301) (some (key 10))) sLoc) = some (.key none) ∧
      see (·.reply) (exec (.locEnclosing (key 999) none) sLoc) = some (.key (some (key 999))) ∧
      see (fun t => (t.reply, t.fault)) (exec (.locEnclosing (key 1) (some (key 5))) sCyc) =
        some (.fault .ltCycle, ⟨false, true⟩) := by decide

/-- V-LOC-4 and V-LOC-5. -/
theorem test_locCompare :
    see (·.reply) (exec (.locCompare false (key 301) (key 303)) sLoc) = some (.order (-1)) ∧
      see (·.reply) (exec (.locCompare true (key 301) (key 303)) sLoc) = some (.order 1) ∧
      see (·.reply) (exec (.locCompare false (key 302) (key 200)) sLoc) = some (.order 1) ∧
      see (·.reply) (exec (.locCompare false (key 301) (key 311)) sLoc) = some (.order 0) ∧
      see (·.reply) (exec (.locCompare false (key 3) (key 5)) sCyc) = some (.fault .ltCycle) := by decide

/-- V-SYN-1 to V-SYN-4: the syndromes and positions of codewords of the spec. -/
theorem test_syndrome :
    syndrome 0x3C80802 = 0x3D8 ∧ syndrome 0x01021EB = 0x3D4 ∧ syndrome 0x1719A72 = 0x25C ∧ syndrome 0x171984A = 0x3CC ∧
      syndrome 0x0810CE7 = 0x258 ∧ syndrome 0x3FFFFFF = 0x19E ∧ pos (syndrome 0x1759A72) = some 3 ∧
      pos (syndrome 0x0850CE7) = some 2 ∧ pos (syndrome 0) = none := by decide

/-- V-SYN-2: check bits and codewords of the spec. -/
theorem test_codeword :
    checkBits 0xF202 = 0x0FE ∧ checkBits 0x0408 = 0x073 ∧ checkBits 0xFFFF = 0x0CD ∧
      codeword 0x5C66 .c = 0x1719A72 ∧ codeword 0x5C66 .c' = 0x171984A ∧ codeword 0xFFFF .d = 0x3FFFD79 := by decide

/-! ## Group types -/

/-- P2: the first group sets TP, PTY, TA, MS, DI[3] and segment 0. -/
theorem test_group0A :
    see (fun t => (t.st.tp, t.st.pty, t.st.ta, t.st.ms, t.st.di, t.st.ps.cur[0], t.st.ps.cur[1], t.st.ps.cur[2]))
        (exec (.group0A (fields true 0 0x08 0x5C66 0x2043 104)) s0) =
      some (some true, some 0, some false, some true, #v[none, none, none, some false], some 0x20, some 0x43, none) := by
  decide

/-- V-FRM-1: 0B writes its segment too, and is counted as version B. -/
theorem test_group0B :
    see (fun t => (t.st.gstat[0], t.st.gstat[1], t.st.ps.cur[0], t.st.ps.cur[1]))
        (exec (.group0B (fields true 0 0x08 0xF202 0x4142 208)) s0) = some (0, 1, some 0x41, some 0x42) := by decide

/-- V-1A-1. -/
theorem test_group1A :
    see (fun t => (t.st.pagingCfg, t.st.pagingActive, t.st.slc[0], t.st.pagingOpc, t.st.ecc, t.st.pin))
        (exec (.group1A (fields false 0 0x10 0x00E1 0x5000 104)) s0) =
      some (some 0x10, true, some 0x0E1, some 0, some 0xE1, some 0x5000) ∧
      see (fun t => (t.st.pagingActive, t.st.slc[3], t.st.pagingOpc, t.st.ecc, t.st.pin))
        (exec (.group1A { fields false 0 0 0x3ABC 0 104 with f3 := false }) s0) =
      some (false, some 0xABC, none, none, none) := by decide

/-- P5, groups 1 and 4: four characters, then an overwrite boundary. -/
theorem test_group2A :
    see (fun t => (t.st.rt.buf[0], t.st.rt.buf[3], t.st.rt.buf[4], t.st.rt.flag, t.st.rt.arch))
        (exec (.group2A (fields false 0 0 0x4355 0x4C54 104)) s0) =
      some (some 0x43, some 0x54, none, some false, []) ∧
      see (fun t => (t.st.rt.buf[0], t.st.rt.buf[1], t.st.rt.buf[2], t.st.rt.arch.map fun b => (b[0], b[2])))
        (exec (.group2A { fields false 0 0 0x5855 0 416 with f3 := false })
          (next s0 (exec (.group2A (fields false 0 0 0x4355 0x4C54 104)) s0))) =
      some (some 0x58, some 0x55, none, [(some 0x43, some 0x4C)]) := by decide

/-- V-ODA-1: CD46 puts a TMC instance into 8A; another AID puts none. -/
theorem test_group3A :
    see (fun t => (t.st.slot[16].map fun o => (o.aid, o.handler.isSome), t.st.gstat[6], t.tmcout))
        (exec (.group3A (fields false 0 0x10 0 0xCD46 104)) s0) = some (some (0xCD46, true), 1, []) ∧
      see (fun t => t.st.slot[16].map fun o => (o.aid, o.handler.isSome))
        (exec (.group3A (fields false 0 0x10 0 0x1234 104)) s0) = some (some (0x1234, false)) := by decide

/-- The parameters with two extensions of HANDLER_OF. -/
def pExt : Params := { p0 with handlers := [(0x1234, .platform 7), (0xCD46, .platform 8), (0x5678, .tmc)] }

/-- The machine with a platform's handler in slot 8A. -/
def sPlat : State := { s0 with st := { s0.st with slot := s0.st.slot.set 16 (some ⟨0x1234, some (.platform 7 1)⟩) } }

/-- 43_group_types R116: an AID that the platform adds; one that the spec fixes stays TMC; and RECV of a platform's handler. -/
theorem test_group3A_extensions :
    see (fun t => t.st.slot[16].map fun o => o.handler)
        (exec (.group3A { fields false 0 0x10 0 0x1234 104 with f2 := false }) (State.boot pExt [])) =
      some (some (some (.platform 7 (Config.handlerInit 7)))) ∧
    see (fun t => t.st.slot[16].map fun o => o.handler)
        (exec (.group3A (fields false 0 0x10 0 0xCD46 104)) (State.boot pExt [])) =
      some (some (some (.tmc TmcInst.fresh))) ∧
    see (fun t => t.st.slot[16].map fun o => o.handler)
        (exec (.group8A (fields false 0 3 0x0ABC 0x1234 208))
          sPlat) =
      some (some (some (.platform 7 (Config.handlerRecv 7 1 ⟨8, .A⟩ #v[true, true, true, true]
        #v[0xF202, 0x8003, 0x0ABC, 0x1234] 208)))) := ⟨rfl, rfl, rfl⟩

/-- V-CT-1: 2017-09-28 23:24 UTC with an offset of -1 half hour, and hour 24. -/
theorem test_group4A :
    see (fun t => t.st.clock) (exec (.group4A (fields false 0 1 0xC551 0x7621 104)) s0) =
      some (some ⟨58024, 2017, 9, 28, 23, 24, -1, 2017, 9, 28, 22, 54⟩) ∧
      see (fun t => (t.st.clock, t.events)) (exec (.group4A (fields false 0 1 0xC551 0x8000 104)) s0) =
      some (none, []) := by decide

/-- V-CT-1: CIVIL. -/
theorem test_civil :
    civil 0 = (1858, 11, 17) ∧ civil 15079 = (1900, 3, 1) ∧ civil 40587 = (1970, 1, 1) ∧ civil 58849 = (2020, 1, 1) ∧
      civil 88127 = (2100, 2, 28) ∧ civil 131071 = (2217, 9, 27) := by decide

/-- V-NOP-1 and 43_group_types R125: rows with no action of their own are counted at their own place. -/
theorem test_groups_without_action :
    see (fun t => t.st.gstat[3]) (exec (.group1B (fields false 0 0 1 2 0)) s0) = some 1 ∧
      see (fun t => (t.st.gstat[5], t.st.rt.buf[0])) (exec (.group2B (fields false 0 0 0x4142 0x4344 0)) s0) =
        some (1, none) ∧
      see (fun t => t.st.gstat[7]) (exec (.group3B (fields false 0 0 1 2 0)) s0) = some 1 ∧
      see (fun t => t.st.gstat[9]) (exec (.group4B (fields false 0 0 1 2 0)) s0) = some 1 ∧
      see (fun t => t.st.gstat[11]) (exec (.group5B (fields false 0 0 1 2 0)) s0) = some 1 ∧
      see (fun t => t.st.gstat[13]) (exec (.group6B (fields false 0 0 1 2 0)) s0) = some 1 ∧
      see (fun t => t.st.gstat[15]) (exec (.group7B (fields false 0 0 1 2 0)) s0) = some 1 ∧
      see (fun t => t.st.gstat[17]) (exec (.group8B (fields false 0 0 1 2 0)) s0) = some 1 ∧
      see (fun t => t.st.gstat[19]) (exec (.group9B (fields false 0 0 1 2 0)) s0) = some 1 ∧
      see (fun t => t.st.gstat[21]) (exec (.group10B (fields false 0 0 1 2 0)) s0) = some 1 ∧
      see (fun t => t.st.gstat[23]) (exec (.group11B (fields false 0 0 1 2 0)) s0) = some 1 ∧
      see (fun t => t.st.gstat[25]) (exec (.group12B (fields false 0 0 1 2 0)) s0) = some 1 ∧
      see (fun t => t.st.gstat[27]) (exec (.group13B (fields false 0 0 1 2 0)) s0) = some 1 ∧
      see (fun t => t.st.gstat[30]) (exec (.group15A (fields false 0 0 1 2 0)) s0) = some 1 := by decide

/-- V-NOP-1: an ODA group whose slot is empty is counted and does nothing else. -/
theorem test_oda_groups_without_slot :
    see (fun t => (t.st.gstat[10], t.tmcout)) (exec (.group5A (fields false 0 8 1 2 0)) s0) = some (1, []) ∧
      see (fun t => (t.st.gstat[12], t.tmcout)) (exec (.group6A (fields false 0 8 1 2 0)) s0) = some (1, []) ∧
      see (fun t => (t.st.gstat[18], t.tmcout)) (exec (.group9A (fields false 0 8 1 2 0)) s0) = some (1, []) ∧
      see (fun t => (t.st.gstat[20], t.tmcout)) (exec (.group10A (fields false 0 8 1 2 0)) s0) = some (1, []) ∧
      see (fun t => (t.st.gstat[22], t.tmcout)) (exec (.group11A (fields false 0 8 1 2 0)) s0) = some (1, []) ∧
      see (fun t => (t.st.gstat[24], t.tmcout)) (exec (.group12A (fields false 0 8 1 2 0)) s0) = some (1, []) ∧
      see (fun t => (t.st.gstat[26], t.tmcout)) (exec (.group13A (fields false 0 8 1 2 0)) s0) = some (1, []) := by decide

/-- V-TMC-1 through 8A: the instance in the slot of the group's own type emits the message. -/
theorem test_group8A :
    see (fun t => (t.st.gstat[16], t.tmcout.map fun o => (o.bt, o.msg.evt)))
        (exec (.group8A (fields false 0 8 0x0ABC 0x1234 208)) (withTmc s0 TmcInst.fresh)) = some (1, [(208, 700)]) := by
  decide

/-- V-PAG-1: with paging inactive 7A is forwarded; its slot here is empty. -/
theorem test_group7A :
    see (fun t => (t.st.gstat[14], t.tmcout)) (exec (.group7A (fields false 0 8 0x0ABC 0x1234 208)) s0) = some (1, []) := by
  decide

/-- V-EON-1: 14A with variant 13 creates the ON record and sets PTY(ON) and TA(ON). -/
theorem test_group14A :
    see (fun t => t.st.eon.map fun r => (r.pi, r.pty, r.ta, r.tp))
        (exec (.group14A (fields false 0 0x1D 0x4005 0xC201 208)) s0) =
      some [(0xC201, some 8, some true, some true)] := by decide

/-- V-EON-2: 14B emits EON_SWITCH on the transition of TA(ON), and not again. -/
theorem test_group14B :
    see (fun t => t.events) (exec (.group14B (fields false 0 0x18 0xF202 0xC201 104)) s0) =
      some [⟨104, .eonSwitch 0xC201⟩] ∧
      see (fun t => t.events) (exec (.group14B (fields false 0 0x18 0xF202 0xC201 208))
        (next s0 (exec (.group14B (fields false 0 0x18 0xF202 0xC201 104)) s0))) =
      some [⟨104, .eonSwitch 0xC201⟩] := by decide

/-- V-15B-1: block 3 is written second and wins. -/
theorem test_group15B :
    see (fun t => (t.st.ta, t.st.ms, t.st.di)) (exec (.group15B (fields false 0 0x18 0 0xF807 208)) s0) =
      some (some false, some false, #v[some true, none, none, some false]) := by decide

/-! ## 14A variants -/

/-- The ON record of PI(ON) C201 after a variant row. -/
def onAfter (i : Instr) : Option (Option OtherNetwork) := see (fun t => tabFind OtherNetwork.pi 0xC201 t.st.eon) (exec i s0)

/-- V-EON-1 and 43_group_types R122: variants 0 to 3 write their PS segment. -/
theorem test_eon_ps :
    (onAfter (.eon14aV0 0xC201 0x4142)).map (·.map fun r => (r.ps.cur[0], r.ps.cur[1])) =
        some (some (some 0x41, some 0x42)) ∧
      (onAfter (.eon14aV1 0xC201 0x4142)).map (·.map fun r => (r.ps.cur[2], r.ps.cur[3])) =
        some (some (some 0x41, some 0x42)) ∧
      (onAfter (.eon14aV2 0xC201 0x4142)).map (·.map fun r => (r.ps.cur[4], r.ps.cur[5])) =
        some (some (some 0x41, some 0x42)) ∧
      (onAfter (.eon14aV3 0xC201 0x2041)).map (·.map fun r => (r.ps.cur[6], r.ps.cur[7])) =
        some (some (some 0x20, some 0x41)) := by decide

/-- 43_group_types R122: variants 5 to 9 add a triple with their own number. -/
theorem test_eon_mapped :
    (onAfter (.eon14aV5 0xC201 0x5C66)).map (·.map (·.mapped)) = some (some [⟨5, 0x5C, 0x66⟩]) ∧
      (onAfter (.eon14aV6 0xC201 0x5C66)).map (·.map (·.mapped)) = some (some [⟨6, 0x5C, 0x66⟩]) ∧
      (onAfter (.eon14aV7 0xC201 0x5C66)).map (·.map (·.mapped)) = some (some [⟨7, 0x5C, 0x66⟩]) ∧
      (onAfter (.eon14aV8 0xC201 0x5C66)).map (·.map (·.mapped)) = some (some [⟨8, 0x5C, 0x66⟩]) ∧
      (onAfter (.eon14aV9 0xC201 0x5C66)).map (·.map (·.mapped)) = some (some [⟨9, 0x5C, 0x66⟩]) := by decide

/-- V-EON-1: variants 12, 13 and 14 write LINKAGE, PTY with TA, and PIN; 4, 10, 11 and 15 write none of these. -/
theorem test_eon_fields :
    (onAfter (.eon14aV12 0xC201 0x1111)).map (·.map (·.linkage)) = some (some (some 0x1111)) ∧
      (onAfter (.eon14aV13 0xC201 0x4005)).map (·.map fun r => (r.pty, r.ta)) = some (some (some 8, some true)) ∧
      (onAfter (.eon14aV14 0xC201 0x2222)).map (·.map (·.pin)) = some (some (some 0x2222)) ∧
      (onAfter (.eon14aV4 0xC201 0xE35C)).map (·.map fun r => (r.pin, r.linkage, r.mapped)) =
        some (some (none, none, [])) ∧
      (onAfter (.eon14aV10 0xC201 1)).map (·.map fun r => (r.pin, r.linkage, r.mapped)) = some (some (none, none, [])) ∧
      (onAfter (.eon14aV11 0xC201 1)).map (·.map fun r => (r.pin, r.linkage, r.mapped)) = some (some (none, none, [])) ∧
      (onAfter (.eon14aV15 0xC201 1)).map (·.map fun r => (r.pin, r.linkage, r.mapped)) = some (some (none, none, [])) := by
  decide

/-! ## TMC -/

/-- The instance in slot 8A of a state. -/
def inst (t : State) : Option TmcInst := t.st.inst? slot8

/-- The state of P3 after its FIRST. -/
def sFirst : State := next s0 (exec (.tmcFirst slot8 5 false 2 115 301) (withTmc sLoc TmcInst.fresh))

/-- The state of P3 after its first continuation. -/
def sCont : State := next s0 (exec (.tmcSubsequent slot8 5 true 1 0x1A4 0xC363 312) sFirst)

/-- V-TMC-1. -/
theorem test_tmcSingle :
    see (fun t => t.tmcout.map fun o => (o.bt, o.msg.single, o.msg.dp, o.msg.ext, o.msg.evt, o.msg.loc, o.msg.rloc))
        (exec (.tmcSingle slot8 0 false false 1 700 0x1234 208) (withTmc sLoc TmcInst.fresh)) =
      some [(208, true, some 0, 1, 700, 0x1234, none)] := by decide

/-- P3, group 2. -/
theorem test_tmcFirst :
    (inst sFirst).map (fun t => (t.msg.map fun m => (m.evt, m.loc, m.ext, m.nf), t.ci, t.next, t.total, t.q)) =
      some (some (115, 301, 2, 0), some 5, some 1, none, []) := by decide

/-- P3, group 3: three records applied, `011` left. -/
theorem test_tmcSubsequent_accepted :
    (inst sCont).map (fun t => (t.msg.map fun m => (m.nf, m.div, m.len, m.spd, m.si), t.ci, t.next, t.total, t.q)) =
      some (some (3, true, some (.km 14), some 60, none), some 5, some 2, some 3, [false, true, true]) := by decide

/-- P3, groups 5 and 6: a broken continuation changes nothing; the last one emits the message, resolved. -/
theorem test_tmcSubsequent_last :
    see (fun t => (inst t == inst sCont, t.tmcout)) (exec (.tmcSubsequent slot8 5 false 1 0x150 0xE000 520) sCont) =
      some (true, []) ∧
      see (fun t => (t.tmcout.map fun o => (o.bt, o.msg.ext, o.msg.nf, o.msg.si, o.msg.rloc, o.msg.rsec), (inst t).map (·.q)))
        (exec (.tmcSubsequent slot8 5 false 0 0x150 0xE000 624) sCont) =
      some ([(624, 10, 5, some 42, some (key 301), some (key 303))], some []) := by decide

/-- V-TMC-3: TUNING with variant 4 writes the first half of PROV. -/
theorem test_tmcTuning :
    see (fun t => (inst t).map (·.prov)) (exec (.tmcTuning slot8 4 0x4142 0x4344) (withTmc s0 TmcInst.fresh)) =
      some (some #v[some 0x41, some 0x42, some 0x43, some 0x44, none, none, none, none]) := by decide

/-- V-TMC-3: the halves of PROV and the ONAF entries. -/
theorem test_tuning_variants :
    see (fun t => (inst t).map (·.prov)) (exec (.tmcTuningV4 slot8 0x4142 0x4344) (withTmc s0 TmcInst.fresh)) =
        some (some #v[some 0x41, some 0x42, some 0x43, some 0x44, none, none, none, none]) ∧
      see (fun t => (inst t).map (·.prov)) (exec (.tmcTuningV5 slot8 0x4546 0x4748) (withTmc s0 TmcInst.fresh)) =
        some (some #v[none, none, none, none, some 0x45, some 0x46, some 0x47, some 0x48]) ∧
      see (fun t => (inst t).map (·.onaf)) (exec (.tmcTuningV6 slot8 0x5C66 0xC201) (withTmc s0 TmcInst.fresh)) =
        some (some [⟨0xC201, [⟨6, 0x5C, 0x66⟩]⟩]) ∧
      see (fun t => (inst t).map (·.onaf)) (exec (.tmcTuningV7 slot8 0x1E5C 0xC201) (withTmc s0 TmcInst.fresh)) =
        some (some [⟨0xC201, [⟨7, 0x1E, 0x5C⟩]⟩]) := by decide

/-- V-TMC-3: the other variants change nothing of the instance. -/
theorem test_tuning_variants_without_effect :
    [Instr.tmcTuningV0 slot8 1 2, .tmcTuningV1 slot8 1 2, .tmcTuningV2 slot8 1 2, .tmcTuningV3 slot8 1 2,
        .tmcTuningV8 slot8 1 2, .tmcTuningV9 slot8 1 2, .tmcTuningV10 slot8 1 2, .tmcTuningV11 slot8 1 2,
        .tmcTuningV12 slot8 1 2, .tmcTuningV13 slot8 1 2, .tmcTuningV14 slot8 1 2, .tmcTuningV15 slot8 1 2].map
        (fun i => see inst (exec i (withTmc s0 TmcInst.fresh))) = List.replicate 12 (some (some TmcInst.fresh)) := by decide

/-- The pending message of slot 8A after a label row on the message of P3's FIRST. -/
def msgAfter (i : Instr) : Option TmcMsg := ((see inst (exec i sFirst)).join.map (·.msg)).join

/-- V-TMC-6 and 44_tmc R136: labels 0, 1 and 6, and the record (0, 0) dropped. -/
theorem test_labels_0_1_6 :
    (msgAfter (.alertcL0 slot8 3)).map (fun m => (m.dur, m.nf)) = some (some 3, 1) ∧
      (msgAfter (.alertcL0 slot8 0)).map (fun m => (m.dur, m.nf)) = some (none, 0) ∧
      (msgAfter (.alertcL1 slot8 5)).map (fun m => (m.div, m.nf)) = some (true, 1) ∧
      (msgAfter (.alertcL1 slot8 6)).map (fun m => (m.ext, m.nf)) = some (10, 1) ∧
      (msgAfter (.alertcL6 slot8 0x2A)).map (fun m => (m.si, m.nf)) = some (some 0x2A, 1) := by decide

/-- V-TMC-5 and 44_tmc R136: labels 2 to 5. -/
theorem test_labels_2_to_5 :
    (msgAfter (.alertcL2 slot8 0)).map (·.len) = some (some .gt100) ∧
      (msgAfter (.alertcL2 slot8 12)).map (·.len) = some (some (.km 14)) ∧
      (msgAfter (.alertcL2 slot8 31)).map (·.len) = some (some (.km 100)) ∧
      (msgAfter (.alertcL3 slot8 12)).map (·.spd) = some (some 60) ∧
      (msgAfter (.alertcL4 slot8 17)).map (·.qty) = some (some (.label4 17)) ∧
      (msgAfter (.alertcL5 slot8 200)).map (·.qty) = some (some (.label5 200)) := by decide

/-- V-TMC-6: labels 7 to 15 change no field and no count. -/
theorem test_labels_7_to_15 :
    [Instr.alertcL7 slot8 1, .alertcL8 slot8 1, .alertcL9 slot8 1, .alertcL10 slot8 1, .alertcL11 slot8 1,
        .alertcL12 slot8 1, .alertcL13 slot8 1, .alertcL14 slot8, .alertcL15 slot8].map msgAfter =
      List.replicate 9 ((inst sFirst).map (·.msg)).join := by decide

/-! ## The step, the port and the hex dump -/

/-- 10_state R45 and 20_memory R59: the items of the port. -/
theorem test_step_items :
    see (fun t => (t.tunedFreq, t.port)) (step { s0 with port := [.setFreq (some 87600)] }) = some (some 87600, []) ∧
      step { s0 with port := [.loadTable []] } = .refused .tableChange ∧
      step { s0 with port := [.setParams p0] } = .refused .parameterChange ∧
      see (fun t => (t.bt, t.port)) (step { s0 with port := [.command (.ofWord 0x12)] }) = some (1, []) ∧
      see (fun t => t.bt) (step s0) = some 0 := by
  exact ⟨by decide, rfl, rfl, by decide, by decide⟩

/-- The host's fetch: a table word is what the next step runs. -/
theorem test_withFetchWord :
    see (fun t => t.sr) (step (State.reset.withFetchWord 8 0x12)) = some 1 ∧
      see (fun t => t.st.gstat[0]) (step (State.reset.withFetchWord 16 0x0408)) = some 1 ∧
      see (fun t => t.tmcout.map (·.msg.evt)) (step ((s0.withFetchWord 24 0x080ABC))) = some [700] := by decide

/-- 30_encoding R72: lines of a hex dump. -/
theorem test_readLine :
    readLine "F202 0408 5c66 ----".toList = .group #v[true, true, true, false] #v[0xF202, 0x0408, 0x5C66, 0] ∧
      readLine "% Freq 87600".toList = .freq 87600 ∧ readLine "".toList = .ignored ∧
      readLine "<recorder".toList = .ignored ∧ readLine "F202 0408 5C66".toList = .error ∧
      readLine "F202 0408 5C66 20G3".toList = .error := by decide

/-- 95_test_vectors section 0: the bit-times of a replay. -/
theorem test_readDump :
    ((readDump ["F202 0408 5C66 2043".toList, "% PIN".toList, "F202 0409 5C62 554C".toList]).items.map fun i =>
      match i with
      | .command f => (f.word, f.bt)
      | _ => (0, 0)) = [(0xF4, 104), (0xF4, 208)] := by decide

/-- 30_encoding R72: bit-times that the host supplies of its own. -/
theorem test_readDumpWith :
    ((readDumpWith (fun n => BitVec.ofNat 64 (1000 + n)) ["F202 0408 5C66 2043".toList, " \t".toList,
      "F202 0409 5C62 554C".toList]).items.map fun i =>
      match i with
      | .command f => f.bt
      | _ => 0) = [1001, 1002] := by decide

/-- 30_encoding R72: the writer. -/
theorem test_writeGroup :
    writeGroup #v[true, true, false, true] #v[0xF202, 0x0408, 0x5C66, 0x0043] = "F202 0408 ---- 0043".toList := by decide

/-! ## Witnesses: the whole machine -/

/-- The machine with one BIT(1) at the port. -/
def sBit : State := { s0 with port := [.command (.ofWord 0x12)] }

theorem witness_StepRunsTheDecodedCommand :
    sBit.port = [.command (.ofWord 0x12)] ∧ decode (.command (.ofWord 0x12)) = .ok (.bit true) ∧
      Instr.wf (.bit true) = true := ⟨rfl, by decide, by decide⟩

theorem witness_OnlyTunedFreqMayChange :
    step sBit = .next (next s0 (step sBit)) ∧
      State.port { s0 with port := [.setFreq (some 87600)] } = [.setFreq (some 87600)] ∧
      State.port { s0 with port := [.loadTable vloc] } = [.loadTable vloc] ∧
      State.port { s0 with port := [.setParams p0] } = [.setParams p0] := ⟨rfl, rfl, rfl, rfl⟩

theorem witness_DecodeOfEncodeIsTheInstruction :
    Instr.wf .reset = true ∧ Instr.wf (.tmcFirst ⟨5, .A⟩ 7 true 7 2047 0xFFFF) = true ∧
      Instr.wf (.alertcL12 ⟨13, .A⟩ 0xFFFF) = true := by decide

theorem witness_EveryStepKeepsTheInvariant : Inv sBit ∧ step sBit = .next (next s0 (step sBit)) := by
  refine ⟨⟨⟨by decide, by decide, ?_, ?_, ?_⟩, ⟨?_, ?_⟩, ⟨?_, ?_, ?_, ?_, ?_⟩, ?_⟩, rfl⟩
  · intro k
    simp [sBit, s0, State.boot, Engine.reset]
  · intro h
    rfl
  · intro h
    exact ⟨rfl, rfl, rfl⟩
  · intro h
    cases h
  · exact Nat.zero_le _
  · exact fresh_ok
  · simp [sBit, s0, State.boot, Engine.reset, Station.fresh, RtUnit.fresh]
  · simp [sBit, s0, State.boot, Engine.reset, Station.fresh]
  · simp [sBit, s0, State.boot, Engine.reset, Station.fresh]
  · simp [sBit, s0, State.boot, Engine.reset, Station.fresh]
  · exact List.Pairwise.nil

theorem witness_OutputStreamsOnlyGrow : step sBit = .next (next s0 (step sBit)) := rfl

theorem witness_OnlyBitAndResetWriteBsync :
    exec (.bit true) s0 = .next (next s0 (exec (.bit true) s0)) ∧ exec .reset s0 = .next (next s0 (exec .reset s0)) ∧
      exec .eos s0 = .next (next s0 (exec .eos s0)) := ⟨rfl, rfl, rfl⟩

/-- A machine with both reasons in FAULT. -/
def sFaulty : State := { s0 with fault := ⟨true, true⟩ }

theorem witness_HaltedAndFaultChangeOnlyAsRuled :
    exec .eos s0 = .next (next s0 (exec .eos s0)) ∧ exec .reset s0 = .next (next s0 (exec .reset s0)) ∧
      exec .reserved0 s0 = .next (next s0 (exec .reserved0 s0)) ∧
      (next s0 (exec .reserved0 s0)).fault ≠ s0.fault ∧
      sFaulty.fault = ⟨true, true⟩ := ⟨rfl, rfl, rfl, by decide, rfl⟩

/-! ## Witnesses: commands -/

/-- The machine after EOS. -/
def sHalted : State := { s0 with halted := true }

theorem witness_EosResult : sHalted.halted = true ∧ s0.halted = false := ⟨rfl, rfl⟩

theorem witness_HaltedCommandsAreStuck : sHalted.halted = true := rfl

theorem witness_SuppressedGroupChangesNothing :
    s0.halted = false ∧ s0.suppress = true ∧ (#v[false, true, true, true] : Vector Bool 4)[0] = false ∧
      (#v[0, 0x0408, 0, 0] : Vector Word 4)[0] = 0 := ⟨rfl, rfl, rfl, rfl⟩

/-- The machine with the station F202 tracked. -/
def sTuned : State := { s0 with st := { s0.st with pi := 0xF202 }, suppress := false }

/-- The same with some consecutive mismatches. -/
def sMismatched (n : Nat) : State := { sTuned with pimis := n }

/-- Each case of PI_STEP: none tracked, tracked, tolerated at the boundary, replaced at the boundary. -/
theorem witness_PiStepResult :
    s0.halted = false ∧ s0.st.pi = 0 ∧ (0xF202 : Word) ≠ 0 ∧ sTuned.halted = false ∧ sTuned.st.pi = 0xF202 ∧
      (0x1234 : Word) ≠ sTuned.st.pi ∧
      (sMismatched 1).halted = false ∧ (sMismatched 1).st.pi = 0xF202 ∧
      (sMismatched 1).pimis + 1 ≤ (sMismatched 1).params.piTolerance ∧
      (#v[true, false, true, true] : Vector Bool 4)[0] = true ∧ (#v[true, true, true, true] : Vector Bool 4)[1] = true ∧
      ¬ (sMismatched 2).pimis + 1 ≤ (sMismatched 2).params.piTolerance := by decide

/-- The gate is open for a group without a PI of a tracked station, with block 1 valid and without, and shut for a group whose
PI is a tolerated mismatch. -/
theorem witness_OpenGateRunsTheGroupRow :
    sTuned.halted = false ∧
      gateShut (Group.of #v[false, true, true, true] #v[0, 0x0408, 0, 0] 104)
        (piStage (Group.of #v[false, true, true, true] #v[0, 0x0408, 0, 0] 104) sTuned) = false ∧
      decode (.group (Group.of #v[false, true, true, true] #v[0, 0x0408, 0, 0] 104)) =
        .ok (.group0A ⟨true, 0, 8, false, true, true, 0, 0, 0, 104⟩) ∧
      gateShut (Group.of #v[false, false, true, true] #v[0, 0, 0, 0] 104)
        (piStage (Group.of #v[false, false, true, true] #v[0, 0, 0, 0] 104) sTuned) = false ∧
      gateShut (Group.of #v[true, true, true, true] #v[0x1234, 0x0408, 0, 0] 104)
        (piStage (Group.of #v[true, true, true, true] #v[0x1234, 0x0408, 0, 0] 104) sTuned) = true := by decide

/-! ## Witnesses: the bit synchronizer -/

/-- The machine after 24 bits. -/
def sAge24 : State := { s0 with bt := 24 }

/-- The last bit before the guard, and a bit after it without a match. -/
theorem witness_BitWithoutMatchOnlyShifts :
    s0.halted = false ∧ s0.sync = .unsynced ∧ (sAge24.bt + 1).toNat < 26 ∧
      pos (syndrome (srAfter false { s0 with bt := 25 })) = none := by decide

/-- HIST with one bucket filled. -/
def histAt (bucket : List BitTime) : Vector (List BitTime) 104 := (Vector.replicate 104 []).set 26 bucket

/-- The machine one bit before the end of block A of V-BS-1. -/
def sA : State := { s0 with sr := 0x1E40401, bt := 25 }

/-- The machine one bit before the end of block B of V-BS-2. -/
def sB : State := { s0 with sr := 0x00810F5, bt := 51, hist := histAt [26] }

/-- The machine one bit before the end of block C of V-BS-2. -/
def sC : State := { s0 with sr := 0x0B8CD39, bt := 77, hist := histAt [26, 52] }

/-- The machine one bit before the end of a block D in the same bucket. -/
def sD : State := { s0 with sr := 0x0408673, bt := 103, hist := histAt [26, 52] }

/-- A first match at the guard's boundary, and a bucket filled up to the threshold. -/
theorem witness_BitRecordsItsMatch :
    (sA.halted = false ∧ sA.sync = .unsynced ∧ 26 ≤ (sA.bt + 1).toNat ∧ pos (syndrome (srAfter false sA)) = some 0 ∧
      (((26 : Fin 104).val : Nat) : Int) = (((sA.bt + 1).toNat : Int) - 26 * ((0 : Fin 4).val : Int)) % 104 ∧
      ([26] : List BitTime) = sA.hist[26].filter (fun t => decide ((sA.bt + 1 - t).toNat ≤ 520)) ++ [sA.bt + 1] ∧
      ([26] : List BitTime).length ≤ 2) ∧
    (sB.halted = false ∧ sB.sync = .unsynced ∧ 26 ≤ (sB.bt + 1).toNat ∧ pos (syndrome (srAfter true sB)) = some 1 ∧
      (((26 : Fin 104).val : Nat) : Int) = (((sB.bt + 1).toNat : Int) - 26 * ((1 : Fin 4).val : Int)) % 104 ∧
      ([26, 52] : List BitTime) = sB.hist[26].filter (fun t => decide ((sB.bt + 1 - t).toNat ≤ 520)) ++ [sB.bt + 1] ∧
      ([26, 52] : List BitTime).length ≤ 2) := by decide

/-- V-BS-2's declaration at position 2, and one at position 3. -/
theorem witness_BitDeclaresSynchronisation :
    (sC.halted = false ∧ sC.sync = .unsynced ∧ 26 ≤ (sC.bt + 1).toNat ∧ pos (syndrome (srAfter false sC)) = some 2 ∧
      (((26 : Fin 104).val : Nat) : Int) = (((sC.bt + 1).toNat : Int) - 26 * ((2 : Fin 4).val : Int)) % 104 ∧
      ([26, 52, 78] : List BitTime) = sC.hist[26].filter (fun t => decide ((sC.bt + 1 - t).toNat ≤ 520)) ++ [sC.bt + 1] ∧
      2 < ([26, 52, 78] : List BitTime).length) ∧
    (sD.halted = false ∧ sD.sync = .unsynced ∧ 26 ≤ (sD.bt + 1).toNat ∧ pos (syndrome (srAfter true sD)) = some 3 ∧
      (((26 : Fin 104).val : Nat) : Int) = (((sD.bt + 1).toNat : Int) - 26 * ((3 : Fin 4).val : Int)) % 104 ∧
      ([26, 52, 104] : List BitTime) = sD.hist[26].filter (fun t => decide ((sD.bt + 1 - t).toNat ≤ 520)) ++ [sD.bt + 1] ∧
      2 < ([26, 52, 104] : List BitTime).length) := by decide

/-- A synchronised machine one bit before the end of a block. -/
def sFrame (cur : Fin 4) (badg : Nat) (gflg : Vector Bool 4) : State :=
  { s0 with sync := .synced, bcnt := 25, cur := cur, badg := badg, gflg := gflg, bt := 103 }

/-- A synchronised machine two bits before the end of a block. -/
def sInside : State := { s0 with sync := .synced, bcnt := 24 }

/-- The last bit inside a block, and the end of block C. -/
theorem witness_BitFramesABlock :
    s0.halted = false ∧ sInside.sync = .synced ∧
      sInside.bcnt < 25 ∧ (sFrame 2 0 #v[true, true, false, false]).bcnt = 25 ∧
      (sFrame 2 0 #v[true, true, false, false]).cur ≠ 3 := by decide

/-- The flags of the group that a last bit completes. -/
def flagsAfter (b : Bool) (s : State) : Vector Bool 4 := s.gflg.set 3 (matchAt (syndrome (srAfter b s)) 3)

/-- The state in which the group that a last bit completes is processed. -/
def groupState (b : Bool) (s : State) : State :=
  { s with
    sr := srAfter b s, bt := s.bt + 1, bcnt := 0, gval := s.gval.set 3 ((srAfter b s).extractLsb' 10 16)
    gflg := flagsAfter b s
    groups := s.groups ++ [⟨popcount (flagsAfter b s), flagsAfter b s,
      s.gval.set 3 ((srAfter b s).extractLsb' 10 16), s.bt + 1⟩] }

/-- A group with a valid block, and the ninth invalid one. -/
theorem witness_BitCompletesAGroup :
    ((sFrame 3 0 #v[true, true, true, false]).halted = false ∧ (sFrame 3 0 #v[true, true, true, false]).cur = 3 ∧
      (sFrame 3 0 #v[true, true, true, false]).bcnt = 25 ∧
      popcount (flagsAfter false (sFrame 3 0 #v[true, true, true, false])) ≠ 0 ∧
      Runs (exec (.groupIn (flagsAfter false (sFrame 3 0 #v[true, true, true, false]))
        ((sFrame 3 0 #v[true, true, true, false]).gval.set 3 0) 104)
        (groupState false (sFrame 3 0 #v[true, true, true, false])))) ∧
    ((sFrame 3 8 #v[false, false, false, false]).sync = .synced ∧
      popcount (flagsAfter false (sFrame 3 8 #v[false, false, false, false])) = 0 ∧
      (sFrame 3 8 #v[false, false, false, false]).badg + 1 < 10) :=
  ⟨⟨by decide, by decide, by decide, by decide, ⟨_, rfl⟩⟩, by decide⟩

theorem witness_TenthInvalidGroupLosesSynchronisation :
    (sFrame 3 9 #v[false, false, false, false]).halted = false ∧
      (sFrame 3 9 #v[false, false, false, false]).sync = .synced ∧
      (sFrame 3 9 #v[false, false, false, false]).bcnt = 25 ∧ (sFrame 3 9 #v[false, false, false, false]).cur = 3 ∧
      popcount (flagsAfter false (sFrame 3 9 #v[false, false, false, false])) = 0 ∧
      (sFrame 3 9 #v[false, false, false, false]).badg = 9 ∧
      Runs (exec (.groupIn (flagsAfter false (sFrame 3 9 #v[false, false, false, false]))
        ((sFrame 3 9 #v[false, false, false, false]).gval.set 3 0) 104)
        (groupState false (sFrame 3 9 #v[false, false, false, false]))) :=
  ⟨by decide, by decide, by decide, by decide, by decide, by decide, ⟨_, rfl⟩⟩

/-- At most 25 bits before, and three codewords in order, from position 0 or from position 1. -/
theorem witness_CleanStreamAcquiresWithin103Bits :
    s0.halted = false ∧ s0.sync = .unsynced ∧ s0.bt.toNat + 103 < 2 ^ 64 ∧ (List.replicate 25 true).length ≤ 25 ∧
      Offset.b.position = Offset.a.position + 1 ∧ Offset.c.position = Offset.a.position + 2 ∧
      Offset.c'.position = Offset.b.position + 1 ∧ Offset.d.position = Offset.b.position + 2 := by decide

theorem witness_SyndromeIsLinear : 24 < 25 ∧ 25 < 26 := by decide

theorem witness_SingleBitErrorIsRejectedAtItsPosition : 25 < 26 ∧ romHRow 25 = romHRow 25 := by decide

/-! ## Witnesses: group types -/

/-- Segments 0 and 3. -/
theorem witness_Type0Result :
    (3 : Fin 4).val + ((fields true 0 0x08 0x5C66 0x2043 104).x.extractLsb' 0 2).toNat = 3 ∧
      (0 : Fin 4).val + ((fields true 0 0x0F 0x1C5C 0x5245 416).x.extractLsb' 0 2).toNat = 3 := by decide

/-- A PS unit whose cells all hold `A`, with a given history. -/
def psUnit (hist : List PsEntry) : PsUnit := ⟨Vector.replicate 8 (some 0x41), hist, 9⟩

/-- The name whose characters are all `A`. -/
def nameA : Vector Byte 8 := Vector.replicate 8 0x41

/-- Eight other names. -/
def fullHist : List PsEntry := (List.range 8).map fun n => ⟨Vector.replicate 8 (BitVec.ofNat 8 n), 1, BitVec.ofNat 32 n⟩

/-- A write that leaves a null cell. -/
theorem witness_PsWriteResult_partial : (PsUnit.fresh.write 0 0x41 0x41).cur[2] = none := by decide

/-- Writes that complete a name: known, new with room, new with a full history. -/
theorem witness_PsWriteResult_complete :
    (∀ c : Fin 8, ((psUnit fullHist).write 0 0x41 0x41).cur[c] = some nameA[c]) ∧
      (∃ e ∈ (psUnit [⟨nameA, 2, 4⟩]).hist, e.value = nameA) ∧
      (∀ e ∈ (psUnit []).hist, e.value ≠ nameA) ∧ (psUnit []).hist.length ≠ 8 ∧
      (∀ e ∈ (psUnit fullHist).hist, e.value ≠ nameA) ∧ (psUnit fullHist).hist.length = 8 := by
  refine ⟨?_, ⟨_, List.mem_singleton_self _, rfl⟩, ?_, by decide, by decide, by decide⟩
  · intro c
    have h : ((psUnit fullHist).write 0 0x41 0x41).cur = Vector.replicate 8 (some 0x41) := by rfl
    rw [h]
    simp [nameA]
  · intro e h
    cases h

/-- Segments in another order; an empty history, and one that is not. -/
theorem witness_PsNameConverges :
    (∀ k : BitVec 2, k ∈ ([3, 1, 0, 2] : List (BitVec 2))) ∧ (psUnit []).hist = [] ∧
      (psUnit [⟨nameA, 2, 4⟩]).hist ≠ [] := by decide

/-- Variants 0 and 7. -/
theorem witness_Type1AResult :
    (0 : Fin 8).val = ((fields false 0 0x10 0x00E1 0x5000 104).b2.extractLsb' 12 3).toNat ∧
      (7 : Fin 8).val = ((fields false 0 0 0x7ABC 0 104).b2.extractLsb' 12 3).toNat := by decide

/-- The machine with `CU` in the first two radiotext cells, and the flag 0. -/
def sText : State := next s0 (exec (.group2A { fields false 0 0 0x4355 0 104 with f3 := false }) s0)

/-- No character, the first group, a toggled flag, and an overwritten cell. -/
theorem witness_Type2AResult :
    GroupFields.f2 { fields false 0 0 0 0 104 with f2 := false, f3 := false } = false ∧
      (fields false 0 0 0x4355 0x4C54 104).f2 = true ∧ s0.st.rt.flag = none ∧
      sText.st.rt.flag = some (!(fields false 0 0x10 0x4142 0 208).x.getLsbD 4) ∧
      rtWritten (fields false 0 0 0x5855 0 208) 0 = some 0x58 ∧ sText.st.rt.buf[0] ≠ none ∧
      sText.st.rt.buf[0] ≠ some 0x58 := by decide

/-- The slots 8A and 15B; a slot that holds the announced AID, an empty slot, and a slot with another AID. -/
theorem witness_Type3AResult :
    (16 : Fin 32).val = 2 * ((fields false 0 0x10 0 0xCD46 104).x.extractLsb' 1 4).toNat +
        ((fields false 0 0x10 0 0xCD46 104).x.getLsbD 0).toNat ∧
      (31 : Fin 32).val = 2 * ((fields false 0 0x1F 0 0x1234 104).x.extractLsb' 1 4).toNat +
        ((fields false 0 0x1F 0 0x1234 104).x.getLsbD 0).toNat ∧
      GroupFields.f3 { fields false 0 0x10 0 0 104 with f3 := false } = false ∧
      (fields false 0 0x10 0 0xCD46 104).f3 = true ∧
      OdaSlot.aid ⟨0x1234, some (.platform 7 1)⟩ = (fields false 0 0x10 0 0x1234 104).b3 ∧
      sPlat.st.slot[(16 : Fin 32)] = some ⟨0x1234, some (.platform 7 1)⟩ ∧ s0.st.slot[(31 : Fin 32)] = none ∧
      (0x1234 : Word) ≠ (fields false 0 0x10 0 0xCD46 104).b3 ∧
      (State.boot pExt []).params.handlers.find? (fun e => e.1 == (0x1234 : Word)) = some (0x1234, .platform 7) ∧
      s0.params.handlers.find? (fun e => e.1 == (0x4567 : Word)) = none := by decide

/-- The last minute of a day, and the first hour out of range. -/
theorem witness_Type4AResult :
    let g := fields false 0 1 0xC551 0x7EC0 104
    let h := fields false 0 1 0xC551 0x8000 104
    (g.f2 = true ∧ g.f3 = true ∧ (g.b2.getLsbD 0).toNat * 16 + (g.b3.extractLsb' 12 4).toNat = 23 ∧
      (g.b3.extractLsb' 6 6).toNat = 59) ∧
      (h.b2.getLsbD 0).toNat * 16 + (h.b3.extractLsb' 12 4).toNat = 24 := by decide

/-- Both blocks valid and not; a slot with a platform's handler and an empty one. -/
theorem witness_OdaGroupsRunTheirTmcForm :
    ((fields false 0 8 0x0ABC 0x1234 208).f2 && (fields false 0 8 0x0ABC 0x1234 208).f3) = true ∧
      (GroupFields.f2 { fields false 0 8 0 0x1234 208 with f2 := false } && true) = false ∧
      sPlat.st.slot[slotIndex slot8] = some ⟨0x1234, some (.platform 7 1)⟩ ∧ s0.st.slot[slotIndex slot8] = none := by
  decide

/-- Paging active with the smallest value, and not active. -/
theorem witness_Type7AResult :
    Station.pagingCfg { s0.st with pagingCfg := some 0x04 } = some 0x04 ∧ (0x04 : BitVec 5).extractLsb' 2 3 ≠ 0 ∧
      s0.st.pagingCfg = none := by decide

/-- A full table of other networks. -/
def fullEon : List OtherNetwork := (List.range 32).map fun n => OtherNetwork.fresh (BitVec.ofNat 16 (0x1000 + n))

/-- The machine with a full table of other networks. -/
def sEon : State := { s0 with st := { s0.st with eon := fullEon } }

theorem witness_Type14AResult :
    GroupFields.f3 { fields false 0 0 0 0 104 with f3 := false } = false ∧
      (fields false 0 0 0x4142 0x1020 104).f3 = true ∧ tabFind OtherNetwork.pi 0x1020 sEon.st.eon = none ∧
      32 ≤ sEon.st.eon.length ∧
      tabFind OtherNetwork.pi 0x101F sEon.st.eon = some (OtherNetwork.fresh 0x101F) ∧
      tabFind OtherNetwork.pi 0xC201 s0.st.eon = none ∧ s0.st.eon.length < 32 :=
  ⟨rfl, rfl, rfl, by decide, rfl, rfl, by decide⟩

theorem witness_Type14BResult :
    GroupFields.f3 { fields false 0 0x18 0 0 104 with f3 := false } = false ∧
      (fields false 0 0x18 0xF202 0x1020 104).f3 = true ∧ tabFind OtherNetwork.pi 0x1020 sEon.st.eon = none ∧
      32 ≤ sEon.st.eon.length ∧ tabFind OtherNetwork.pi 0x101F sEon.st.eon = some (OtherNetwork.fresh 0x101F) ∧
      tabFind OtherNetwork.pi 0xC201 s0.st.eon = none ∧ s0.st.eon.length < 32 :=
  ⟨rfl, rfl, rfl, by decide, rfl, rfl, by decide⟩

theorem witness_EonVariantResults :
    tabFind OtherNetwork.pi 0x101F sEon.st.eon = some (OtherNetwork.fresh 0x101F) ∧
      tabFind OtherNetwork.pi 0xC201 s0.st.eon = none ∧ s0.st.eon.length < 32 ∧
      tabFind OtherNetwork.pi 0x1020 sEon.st.eon = none ∧ 32 ≤ sEon.st.eon.length :=
  ⟨rfl, rfl, by decide, rfl, by decide⟩

theorem witness_Type15BResult :
    (3 : Fin 4).val + ((fields false 0 0x18 0 0xF807 208).x.extractLsb' 0 2).toNat = 3 ∧
      (0 : Fin 4).val + ((fields false 0 0x18 0 0xF807 208).b3.extractLsb' 0 2).toNat = 3 := by decide

/-! ## Witnesses: TMC -/

/-- The message of P3's FIRST. -/
def msgP3 : TmcMsg := { newMsg false false 2 115 301 with ci := some 5 }

/-- An instance with that message pending. -/
def pending (next : Nat) (total : Option Nat) : TmcInst :=
  { TmcInst.fresh with msg := some msgP3, ci := some 5, next := some next, total := total }

/-- Slot 8A of `withTmc` holds the instance. -/
theorem holds_withTmc (t : TmcInst) : Holds (withTmc s0 t) slot8 (tmcSlot t) t := ⟨rfl, rfl⟩

theorem witness_TmcSingleResult : Holds (withTmc s0 TmcInst.fresh) slot8 (tmcSlot TmcInst.fresh) TmcInst.fresh :=
  holds_withTmc _

theorem witness_TmcFirstResult : Holds (withTmc s0 (pending 1 none)) slot8 (tmcSlot (pending 1 none)) (pending 1 none) :=
  holds_withTmc _

/-- The first continuation; and the last ones of a message of two groups and of five. -/
theorem witness_TmcContinuationAccepted :
    Holds (withTmc s0 (pending 1 none)) slot8 (tmcSlot (pending 1 none)) (pending 1 none) ∧
      Holds (withTmc s0 (pending 4 (some 5))) slot8 (tmcSlot (pending 4 (some 5))) (pending 4 (some 5)) ∧
      (pending 1 none).msg = some msgP3 ∧ (pending 1 none).ci = some 5 ∧ (pending 1 none).next = some 1 ∧
      (pending 4 (some 5)).next = some 4 ∧ (pending 4 (some 5)).total = some 5 ∧
      ((4 : Nat) : Int) = ((5 : Nat) : Int) - 1 - ((0 : BitVec 2).toNat : Int) ∧
      ((1 : Nat) : Int) = ((5 : Nat) : Int) - 1 - ((3 : BitVec 2).toNat : Int) :=
  ⟨holds_withTmc _, holds_withTmc _, rfl, rfl, rfl, rfl, rfl, by decide, by decide⟩

/-- No message; another CI; no total; a first continuation out of place; a sequence number out of place. -/
theorem witness_BrokenContinuationChangesNothing :
    Holds (withTmc s0 TmcInst.fresh) slot8 (tmcSlot TmcInst.fresh) TmcInst.fresh ∧ TmcInst.fresh.msg = none ∧
      (pending 1 none).ci ≠ some 6 ∧ (pending 1 none).total = none ∧ (pending 2 (some 3)).next ≠ some 1 ∧
      (pending 2 (some 3)).total = some 3 ∧
      ∀ n, (pending 2 (some 3)).next = some n → (n : Int) ≠ ((3 : Nat) : Int) - 1 - ((1 : BitVec 2).toNat : Int) := by
  refine ⟨holds_withTmc _, rfl, by decide, rfl, by decide, rfl, ?_⟩
  intro n h
  cases h
  decide

theorem witness_TmcTuningResults :
    Holds (withTmc s0 TmcInst.fresh) slot8 (tmcSlot TmcInst.fresh) TmcInst.fresh := holds_withTmc _

theorem witness_LabelRowsResult :
    Holds (withTmc s0 (pending 1 none)) slot8 (tmcSlot (pending 1 none)) (pending 1 none) ∧
      (pending 1 none).msg = some msgP3 := ⟨holds_withTmc _, rfl⟩

/-- A complete record; three bits; a label 5 record one bit short. -/
theorem witness_DrainRunsTheRecordAtTheHead :
    (Holds (withTmc s0 (pending 1 none)) slot8 (tmcSlot (pending 1 none)) (pending 1 none) ∧
      (pending 1 none).msg = some msgP3) ∧
      decode (.record slot8 (bits 7 0b0001101)) = .ok (.alertcL1 slot8 5) ∧ (bits 3 0b011).length < 4 ∧
      (bits 11 0b01011000000).length < 4 + labelSize (bitsVal ((bits 11 0b01011000000).take 4)) :=
  ⟨⟨holds_withTmc _, rfl⟩, by decide, by decide, by decide⟩

theorem witness_QueueBound : (List.replicate 19 false).length ≤ 19 := by decide

theorem witness_RowsOfASlotWithoutInstanceChangeNothing :
    Instr.slot? (.tmcTuningV4 slot8 0x4142 0x4344) = some slot8 ∧ ∀ o t, ¬ Holds s0 slot8 o t := by
  refine ⟨rfl, ?_⟩
  rintro o t ⟨h, -⟩
  cases h

/-! ## Witnesses: the location walker -/

/-- A record of each kind, and a chain. -/
theorem witness_ChainIsTheParentPath :
    vloc.read (key 11) = some (locRec 11 .area (some 10)) ∧
      (vloc.read (key 100)).map (·.kind) = some .road ∧ (vloc.read (key 200)).map (·.kind) = some .segment ∧
      (vloc.read (key 301)).map (·.kind) = some .point ∧
      chain vloc (key 301) = some [key 301, key 200, key 100] ∧ chain vloc (key 999) = some [] ∧
      parent vloc (key 301) = some (key 200) := by decide

theorem witness_LocOffsetResult :
    sLoc.halted = false ∧ sLoc.lt.read (key 999) = none ∧ (sLoc.lt.read (key 301)).isSome = true := by decide

theorem witness_LocEnclosingResult :
    sLoc.halted = false ∧ key 303 ≠ key 301 ∧ chain sLoc.lt (key 301) = some [key 301, key 200, key 100] ∧
      chain sLoc.lt (key 303) = some [key 303, key 200, key 100] ∧ chain sCyc.lt (key 1) = none := by decide

/-- The machine with segments that have parent segments. -/
def sSeg : State :=
  State.boot p0
    [locRec 1 (seg none (some 3)), locRec 2 (seg none (some 4)), locRec 3 (seg none none), locRec 4 (seg none none)]

/-- Equal and missing keys; an ancestor; a descendant; a chain over its bound, of either key. -/
theorem witness_LocCompareResult_chains :
    sLoc.halted = false ∧ sLoc.lt.read (key 999) = none ∧ key 200 ≠ key 302 ∧ (sLoc.lt.read (key 200)).isSome = true ∧
      (sLoc.lt.read (key 302)).isSome = true ∧ chain sLoc.lt (key 302) = some [key 302, key 200, key 100] ∧
      chain sLoc.lt (key 200) = some [key 200, key 100] ∧ chain sCyc.lt (key 1) = none ∧
      chain sCyc.lt (key 5) = some [key 5] := by decide

/-- Kinds that differ; a walk over its bound; a walk that finds the key; a walk that does not; parent segments. -/
theorem witness_LocCompareResult_walks :
    ((sLoc.lt.read (key 301)).map (·.kind) = some .point ∧ (sLoc.lt.read (key 10)).map (·.kind) = some .area ∧
      chain sLoc.lt (key 10) = some [key 10]) ∧
    (walk sCyc.lt (key 3) (key 5) = none ∧ chain sCyc.lt (key 3) = some [key 3]) ∧
    walk sLoc.lt (key 301) (key 303) = some (-1) ∧ walk sLoc.lt (key 301) (key 311) = some 0 ∧
    (walk sSeg.lt (key 1) (key 2) = some 0 ∧ chain sSeg.lt (key 1) = some [key 1, key 3] ∧
      chain sSeg.lt (key 2) = some [key 2, key 4] ∧ sSeg.lt.follow (some (key 3)) = some (key 3) ∧
      sSeg.lt.follow (some (key 4)) = some (key 4) ∧ sSeg.lt.length = 4) := by decide

/-- A recursion that is allowed, one that is not, and a query that answers or faults. -/
theorem witness_LocCompareResult_recursion :
    compareFrom sSeg.lt false 1 (key 1) (key 2) = some 0 ∧ compareFrom sSeg.lt false 0 (key 1) (key 2) = none ∧
      compareFrom sLoc.lt false sLoc.lt.length (key 301) (key 303) = some (-1) ∧ sCyc.halted = false ∧
      compareFrom sCyc.lt false sCyc.lt.length (key 1) (key 5) = none := by decide

theorem witness_WalkFindsTheSideOfTheKey :
    walk vloc (key 301) (key 303) = some (-1) ∧ walk vloc (key 303) (key 301) = some 1 ∧
      walk vloc (key 301) (key 311) = some 0 ∧ neighbour vloc .pos (key 301) = some (key 302) := by decide

theorem witness_HexDumpLineRoundTrip :
    ([(#v[true, true, true, false], #v[0xF202, 0x0408, 0x5C66, 0x0043])] : List (Vector Bool 4 × Vector Word 4))[0]? =
      some (#v[true, true, true, false], #v[0xF202, 0x0408, 0x5C66, 0x0043]) := rfl

/-- Two points of one segment. -/
def lineTable : Memory :=
  [locRec 200 (seg none none), locRec 301 (pt none (some 302) none (some 200)),
    locRec 302 (pt none none (some 301) (some 200))]

theorem witness_AcyclicTableNeverFaults :
    (State.boot p0 lineTable).halted = false ∧ Memory.ParentsAcyclic lineTable ∧ Memory.OffsetsAcyclic lineTable := by
  have present : ∀ k r, lineTable.read k = some r → k = key 200 ∨ k = key 301 ∨ k = key 302 := by
    intro k r h
    obtain ⟨h1, h2⟩ := Memory.read_some h
    rw [← h2]
    simp only [lineTable, List.mem_cons, List.not_mem_nil, or_false] at h1
    rcases h1 with rfl | rfl | rfl <;> simp [locRec]
  refine ⟨rfl, ⟨fun k => if k = key 200 then 0 else 1, ?_⟩, ⟨fun k => k.lcd.toNat, ?_, ?_⟩⟩
  · intro k p h
    cases hr : lineTable.read k with
    | none => simp [parent, hr] at h
    | some r =>
      rcases present k r hr with rfl | rfl | rfl <;> revert h <;> revert p <;> simp +decide
  · intro k n h
    cases hr : lineTable.read k with
    | none => simp [neighbour, hr] at h
    | some r =>
      rcases present k r hr with rfl | rfl | rfl <;> revert h <;> revert n <;> simp +decide
  · intro k n h
    cases hr : lineTable.read k with
    | none => simp [neighbour, hr] at h
    | some r =>
      rcases present k r hr with rfl | rfl | rfl <;> revert h <;> revert n <;> simp +decide

end Sys2Proof.Tests
end

section
/-! The whole-machine rules of 10_state: what no instruction changes, what only grows, and the fields that a few
instructions own. Every proof goes through the inversion lemmas `exec_next` and `step_next`. -/

namespace Sys2Proof.Machine

open Sys2Proof

/-! ## What the end of the stream writes (41_synchronizer R93) -/

/-- EOS writes EVENTS and HALTED alone. -/
theorem endOfStream_frame (s : State) :
    endOfStream s = { s with events := (endOfStream s).events, halted := true } := by
  unfold endOfStream
  dsimp only
  split <;> rfl

theorem endOfStream_events (s : State) : s.events <+: (endOfStream s).events := by
  unfold endOfStream
  dsimp only
  split <;> simp

/-! ## Fields that a reply, a fault or the end of the stream leaves -/

theorem sameBsync_setReply (s : State) (r : Reply) : SameBsync s (s.setReply r) := by simp [SameBsync]

theorem sameBsync_raise (s : State) (r : FaultReason) : SameBsync s (s.raise r) := by simp [SameBsync]

theorem sameBsync_endOfStream (s : State) : SameBsync s (endOfStream s) := by
  rw [endOfStream_frame]
  simp [SameBsync]

theorem SameBsync.trans {s t u : State} (h : SameBsync s t) (k : SameBsync t u) : SameBsync s u := by
  obtain ⟨h1, h2, h3, h4, h5, h6, h7, h8, h9, h10, h11⟩ := h
  obtain ⟨k1, k2, k3, k4, k5, k6, k7, k8, k9, k10, k11⟩ := k
  exact ⟨k1.trans h1, k2.trans h2, k3.trans h3, k4.trans h4, k5.trans h5, k6.trans h6, k7.trans h7, k8.trans h8,
    k9.trans h9, k10.trans h10, k11.trans h11⟩

/-! ## What one instruction does to the whole-machine fields -/

section Exec

variable {i : Instr} {s t : State}

/-- No instruction writes a parameter (70_reset_and_hazards R165). -/
theorem exec_params (h : exec i s = .next t) : t.params = s.params := by
  cases exec_next h with
  | reset _ ht => rw [ht]
  | bit b _ _ ht =>
    obtain ⟨-, -, -, hp, -⟩ := bitStep_frame b s
    rw [ht, State.setReply_params, hp]
  | eos _ _ ht => rw [ht, State.setReply_params, endOfStream_frame]
  | groupIn f v bt _ _ ht => rw [ht, State.setReply_params, (GdecStep.process _ s).params]
  | reply _ _ _ r ht => rw [ht, State.setReply_params]
  | fault _ _ _ r ht => rw [ht, State.raise_params]
  | row _ _ _ _ ht => exact ht.params

/-- Every instruction extends the four output streams; RESET keeps them (10_state R42). -/
theorem exec_streams (h : exec i s = .next t) :
    s.events <+: t.events ∧ s.groups <+: t.groups ∧ s.synclog <+: t.synclog ∧ s.tmcout <+: t.tmcout := by
  have gdec {u : State} (hu : GdecStep s u) :
      s.events <+: u.events ∧ s.groups <+: u.groups ∧ s.synclog <+: u.synclog ∧ s.tmcout <+: u.tmcout := by
    obtain ⟨-, -, -, -, -, -, -, -, -, hg, hl⟩ := hu.bsync
    rw [hg, hl]
    exact ⟨hu.events, List.prefix_refl _, List.prefix_refl _, hu.tmcout⟩
  cases exec_next h with
  | reset _ ht =>
    rw [ht]
    exact ⟨List.prefix_refl _, List.prefix_refl _, List.prefix_refl _, List.prefix_refl _⟩
  | bit b _ _ ht =>
    obtain ⟨-, -, -, -, -, -, -, he, hg, hl, hm⟩ := bitStep_frame b s
    rw [ht]
    exact ⟨he, hg, hl, hm⟩
  | eos _ _ ht =>
    have he := endOfStream_events s
    rw [ht, endOfStream_frame]
    exact ⟨he, List.prefix_refl _, List.prefix_refl _, List.prefix_refl _⟩
  | groupIn f v bt _ _ ht =>
    have hp := gdec (GdecStep.process (Group.of f v bt) s)
    rw [ht]
    exact hp
  | reply _ _ _ r ht => simp [ht]
  | fault _ _ _ r ht => simp [ht]
  | row _ _ _ _ ht => exact gdec ht

/-- Outside BIT and RESET no instruction writes BSYNC (10_state R14, 41_synchronizer R94). -/
theorem exec_sameBsync (h : exec i s = .next t) (hbit : ∀ b, i ≠ .bit b) (hreset : i ≠ .reset) : SameBsync s t := by
  cases exec_next h with
  | reset hi _ => exact absurd hi hreset
  | bit b hi _ _ => exact absurd hi (hbit b)
  | eos _ _ ht => exact ht ▸ (sameBsync_endOfStream s).trans (sameBsync_setReply _ _)
  | groupIn f v bt _ _ ht => exact ht ▸ (GdecStep.process _ s).bsync.trans (sameBsync_setReply _ _)
  | reply _ _ _ r ht => exact ht ▸ sameBsync_setReply s r
  | fault _ _ _ r ht => exact ht ▸ sameBsync_raise s r
  | row _ _ _ _ ht => exact ht.bsync

/-- Outside EOS and RESET no instruction writes HALTED (10_state R25). -/
theorem exec_halted (h : exec i s = .next t) (heos : i ≠ .eos) (hreset : i ≠ .reset) : t.halted = s.halted := by
  cases exec_next h with
  | reset hi _ => exact absurd hi hreset
  | bit b _ _ ht =>
    obtain ⟨-, hh, -⟩ := bitStep_frame b s
    rw [ht, State.setReply_halted, hh]
  | eos hi _ _ => exact absurd hi heos
  | groupIn f v bt _ _ ht => rw [ht, State.setReply_halted, (GdecStep.process _ s).halted]
  | reply _ _ _ r ht => rw [ht, State.setReply_halted]
  | fault _ _ _ r ht => rw [ht, State.raise_halted]
  | row _ _ _ _ ht => exact ht.halted

/-- Outside RESET an instruction leaves FAULT as it is, or raises one fault and does nothing else (60_exceptions R156). -/
theorem exec_fault_cases (h : exec i s = .next t) (hreset : i ≠ .reset) :
    t.fault = s.fault ∨ ∃ r, t = s.raise r := by
  cases exec_next h with
  | reset hi _ => exact absurd hi hreset
  | bit b _ _ ht =>
    obtain ⟨-, -, hf, -⟩ := bitStep_frame b s
    exact .inl (by rw [ht, State.setReply_fault, hf])
  | eos _ _ ht => exact .inl (by rw [ht, State.setReply_fault, endOfStream_frame])
  | groupIn f v bt _ _ ht => exact .inl (by rw [ht, State.setReply_fault, (GdecStep.process _ s).fault])
  | reply _ _ _ r ht => exact .inl (by rw [ht, State.setReply_fault])
  | fault _ _ _ r ht => exact .inr ⟨r, ht⟩
  | row _ _ _ _ ht => exact .inl ht.fault

/-- EOS halts (41_synchronizer R93). -/
theorem execEos_halted (h : exec .eos s = .next t) : t.halted = true := by
  obtain ⟨-, ht⟩ := unlessHalted_next h
  rw [ht, State.setReply_halted, endOfStream_frame]

/-- BIT counts itself in BT (41_synchronizer R87). -/
theorem execBit_bt {b : Bool} (h : exec (.bit b) s = .next t) : t.bt = s.bt + 1 := by
  obtain ⟨-, ht⟩ := unlessHalted_next h
  obtain ⟨hbt, -⟩ := bitStep_frame b s
  rw [ht, State.setReply_bt, hbt]

/-- RESET leaves the engine of the reset table (70_reset_and_hazards R163). -/
theorem execReset_engine (h : exec .reset s = .next t) : t.toEngine = resetEngine s.toEngine := by
  cases h
  rfl

end Exec

/-! ## The port items that are no commands (log 1) -/

theorem step_setFreq {s : State} {khz : Option Nat} {rest : List PortItem} (h : s.port = .setFreq khz :: rest) :
    step s = .next { s with tunedFreq := khz, port := rest } := by
  simp only [step, h]
  rfl

theorem step_loadTable {s : State} {lt : Memory} {rest : List PortItem} (h : s.port = .loadTable lt :: rest) :
    step s = .refused .tableChange := by
  simp only [step, h, portStep]

theorem step_setParams {s : State} {p : Params} {rest : List PortItem} (h : s.port = .setParams p :: rest) :
    step s = .refused .parameterChange := by
  simp only [step, h, portStep]

end Sys2Proof.Machine

open Sys2Proof Sys2Proof.Machine

/-- Settles O3: TUNED_FREQ is set by its own port item, and a command leaves LT and the parameters alone. -/
theorem onlyTunedFreqMayChange : Obligations.OnlyTunedFreqMayChange := by
  unfold Obligations.OnlyTunedFreqMayChange
  refine ⟨fun s t h => ?_, fun s rest khz lt p => ⟨step_setFreq, step_loadTable, step_setParams⟩⟩
  rcases step_next h with ⟨-, rfl⟩ | ⟨khz, rest, -, rfl⟩ | ⟨f, rest, -, hx⟩
  · exact ⟨rfl, rfl⟩
  · exact ⟨rfl, rfl⟩
  · exact ⟨(exec_memory hx).trans (State.setPort_lt s rest), (exec_params hx).trans (State.setPort_params s rest)⟩

/-- Settles O8: a command extends the streams, and the other port items do not touch them. -/
theorem outputStreamsOnlyGrow : Obligations.OutputStreamsOnlyGrow := by
  unfold Obligations.OutputStreamsOnlyGrow
  intro s t h
  rcases step_next h with ⟨-, rfl⟩ | ⟨khz, rest, -, rfl⟩ | ⟨f, rest, -, hx⟩
  · simp
  · simp
  · exact exec_streams (s := s.setPort rest) hx

/-- Settles O9. -/
theorem onlyBitAndResetWriteBsync : Obligations.OnlyBitAndResetWriteBsync := by
  unfold Obligations.OnlyBitAndResetWriteBsync
  intro i s t h
  refine ⟨exec_sameBsync h, ?_, ?_⟩
  · rintro b rfl
    exact execBit_bt h
  · rintro rfl
    rw [execReset_engine h]
    rfl

/-- Settles O10: the only writers of FAULT are RESET and `State.raise`. -/
theorem haltedAndFaultChangeOnlyAsRuled : Obligations.HaltedAndFaultChangeOnlyAsRuled := by
  unfold Obligations.HaltedAndFaultChangeOnlyAsRuled
  intro i s t h
  refine ⟨?_, ?_, fun hreset => ⟨fun heos => exec_halted h heos hreset, ?_⟩⟩
  · rintro rfl
    exact execEos_halted h
  · rintro rfl
    rw [execReset_engine h]
    exact ⟨rfl, rfl⟩
  · rcases exec_fault_cases h hreset with hf | ⟨r, rfl⟩
    · rw [hf]
      exact ⟨id, id, fun hne => absurd rfl hne⟩
    · obtain ⟨hop, hcycle⟩ := FaultSet.add_keeps r s.fault
      exact ⟨hop, hcycle, fun _ => ⟨r, rfl⟩⟩

end

section
/-! The invariant of `Safety.lean`: each operation under a command keeps its part of it, from the tables of the station up
to BIT and GROUP_IN. -/

namespace Sys2Proof.Machine

open Sys2Proof

/-! ## Bounded units -/

theorem OtherNetwork.fresh_ok (pi : Word) : (OtherNetwork.fresh pi).Ok :=
  ⟨Machine.fresh_ok, Nat.zero_le _⟩

theorem onPs_ok {r : OtherNetwork} (h : r.Ok) (n : BitVec 2) (b2 : Word) : (onPs n b2 r).Ok :=
  ⟨write_ok h.1 n _ _, h.2⟩

theorem onMapped_ok {r : OtherNetwork} (h : r.Ok) (n : BitVec 4) (b2 : Word) : (onMapped n b2 r).Ok :=
  ⟨h.1, lastN_length _ _⟩

theorem rtArchive_length {arch : List (Vector Cell 64)} (h : arch.length ≤ Config.rtArchiveDepth)
    (buf : Vector Cell 64) : (rtArchive arch buf).length ≤ Config.rtArchiveDepth := by
  unfold rtArchive
  dsimp only
  split
  · simpa using h
  · omega

/-- Radiotext keeps the bound of the archive (10_state R33). -/
theorem rtWrite_arch {u : RtUnit} (h : u.arch.length ≤ Config.rtArchiveDepth) (ab : Bool) (pcs : List (Fin 64 × Byte)) :
    (u.write ab pcs).arch.length ≤ Config.rtArchiveDepth := by
  unfold RtUnit.write
  split
  · exact h
  · split
    · dsimp only
      split
      · exact rtArchive_length h _
      · exact h
    · exact h

/-! ## The TMC forms (44_tmc R129 to R131 and R141) -/

theorem TmcInst.fresh_ok : TmcInst.fresh.Ok where
  idle _ := ⟨rfl, rfl, rfl, rfl⟩
  pending h := nomatch h
  next _ h := nomatch h
  total _ h := nomatch h
  queue := by decide
  onaf := ⟨List.Pairwise.nil, Nat.zero_le _⟩
  triples _ h := nomatch h

/-- FIRST starts a message with an empty queue and expects the second group. -/
theorem firstInst_ok {t : TmcInst} (h : t.Ok) (ci : BitVec 3) (dir : Bool) (ext : BitVec 3) (evt : BitVec 11)
    (loc : Word) : (firstInst ci dir ext evt loc t).Ok where
  idle hm := nomatch hm
  pending _ := ⟨rfl, rfl⟩
  next n hn := by
    cases hn
    decide
  total _ ht := nomatch ht
  queue := TmcInst.fresh_ok.queue
  onaf := h.onaf
  triples := h.triples

/-- A TMC message that is complete leaves nothing of itself. -/
theorem TmcInst.Ok.clear {t : TmcInst} (h : t.Ok) :
    TmcInst.Ok { t with msg := none, ci := none, next := none, total := none, q := [] } where
  idle _ := ⟨rfl, rfl, rfl, rfl⟩
  pending hm := nomatch hm
  next _ hn := nomatch hn
  total _ ht := nomatch ht
  queue := TmcInst.fresh_ok.queue
  onaf := h.onaf
  triples := h.triples

/-- An accepted continuation that is not the last has a successor within the range of NEXT: the second group is number 1,
and a later one comes before the last of at most 5. -/
theorem accepted_next_range {ci : BitVec 3} {sg : Bool} {gsi : BitVec 2} {t : TmcInst} (h : t.Ok)
    (ha : contAccepted ci sg gsi t = true) (hg : gsi ≠ 0) {n : Nat} (hn : t.next = some n) : n + 1 ≤ 7 := by
  have hpos : gsi.toNat ≠ 0 := fun e => hg (BitVec.eq_of_toNat_eq e)
  obtain ⟨-, ⟨-, hn'⟩ | ⟨-, n', total, hn', ht, hseq⟩⟩ := contAccepted_iff.mp ha
  · rw [hn'] at hn
    cases hn
    decide
  · rw [hn'] at hn
    cases hn
    have := h.total total ht
    omega

/-- SUBSEQUENT: a broken continuation changes nothing, the last clears the message, and any other drains the queue. -/
theorem subsequentInst_ok {t : TmcInst} (h : t.Ok) (slot : Slot) (ci : BitVec 3) (sg : Bool) (gsi : BitVec 2)
    (free12 : BitVec 12) (free16 : Word) : (subsequentInst slot ci sg gsi free12 free16 t).1.Ok := by
  unfold subsequentInst
  split
  · exact h
  · rename_i m hm
    split
    · rename_i ha
      dsimp only
      split
      · exact h.clear
      · rename_i hg
        obtain ⟨hci, hnext⟩ := h.pending (by rw [hm]; rfl)
        refine ⟨(nomatch ·), fun _ => ⟨hci, by simpa using hnext⟩, ?_, ?_, ?_, h.onaf, h.triples⟩
        · intro n hn
          obtain ⟨n', hn', rfl⟩ := Option.map_eq_some_iff.mp hn
          exact ⟨Nat.le_add_left _ _, accepted_next_range h ha hg hn'⟩
        · intro n hn
          dsimp only at hn
          split at hn
          · cases hn
            have := gsi.isLt
            omega
          · exact h.total n hn
        · obtain ⟨-, hd⟩ := drain_rest slot (pushFree t.q free12 free16) m
          exact ⟨hd, length_of_incomplete hd⟩
    · exact h

theorem provPut_ok {t : TmcInst} (h : t.Ok) (upper : Bool) (b2 b3 : Word) : (provPut upper b2 b3 t).Ok :=
  ⟨h.idle, h.pending, h.next, h.total, h.queue, h.onaf, h.triples⟩

/-- ONAF stays in order and bounded, whether its entry is found, created or refused. -/
theorem onafPut_ok {t : TmcInst} (h : t.Ok) (pi : Word) (tr : FreqTriple) : (onafPut pi tr t).Ok := by
  obtain ⟨hwf, hlen⟩ := h.onaf
  have put {e : OnafEntry} (htr : e.triples.length ≤ Config.tripleCap)
      (hl : (tabPut OnafEntry.pi e t.onaf).length ≤ Config.eonCap) :
      TmcInst.Ok { t with onaf := tabPut OnafEntry.pi e t.onaf } := by
    refine ⟨h.idle, h.pending, h.next, h.total, h.queue, ⟨tabPut_wf hwf, hl⟩, fun x hx => ?_⟩
    rcases mem_tabPut hx with rfl | hx
    · exact htr
    · exact h.triples x hx
  unfold onafPut
  split
  · rename_i e he
    refine put (lastN_length _ _) ?_
    rw [tabPut_length_of_found hwf (by rw [tabFind_key he, he]; rfl)]
    exact hlen
  · split
    · exact put (by simp [Config.tripleCap]) ((tabPut_length_le _ _).trans ‹_›)
    · exact h

/-- TUNING keeps what it runs on in order, whatever variant row it runs. -/
theorem runTuning_ok {t : TmcInst} (h : t.Ok) (i : Instr) : (runTuning i t).Ok := by
  unfold runTuning
  split
  case h_5 => exact provPut_ok h _ _ _
  case h_6 => exact provPut_ok h _ _ _
  case h_7 => exact onafPut_ok h _ _
  case h_8 => exact onafPut_ok h _ _
  all_goals exact h

/-! ## The tables of the station -/

theorem Station.fresh_ok (p : Params) : Station.fresh.Ok p where
  ps := Machine.fresh_ok
  arch := Nat.zero_le _
  eon := ⟨List.Pairwise.nil, Nat.zero_le _⟩
  networks _ h := nomatch h
  slots k o h := by simp [Station.fresh] at h

/-- A created handler is of the kind that was asked for, and in order (43_group_types R116). -/
theorem newHandler_ok (p : Params) (aid : Word) : OdaSlot.Ok p ⟨aid, newHandler (handlerOf p aid)⟩ := by
  unfold OdaSlot.Ok newHandler
  dsimp only
  split <;> rename_i hk <;> rw [hk]
  · exact ⟨rfl, fun t ht => by cases ht; exact TmcInst.fresh_ok⟩
  · exact ⟨rfl, fun t ht => nomatch ht⟩
  · exact ⟨rfl, fun t ht => nomatch ht⟩

/-- An announcement leaves the slot with the handler of its AID (43_group_types R115). -/
theorem announced_ok {p : Params} {o : Option OdaSlot} (h : ∀ x, o = some x → x.Ok p) (aid : Word) :
    (announced p aid o).Ok p := by
  unfold announced
  split
  · split
    · exact h _ rfl
    · exact newHandler_ok p aid
  · exact newHandler_ok p aid

namespace Station.Ok

variable {p : Params} {st : Station} (h : st.Ok p)
include h

theorem setSlot (k : Fin 32) {o : OdaSlot} (ho : o.Ok p) : Station.Ok p { st with slot := st.slot.set k (some o) } := by
  refine ⟨h.ps, h.arch, h.eon, h.networks, fun j x hx => ?_⟩
  simp only [Fin.getElem_fin, Vector.getElem_set] at hx
  split at hx
  · cases hx
    exact ho
  · exact h.slots j x hx

theorem onRecord {pi : Word} {r : OtherNetwork} (hr : onRecord pi st.eon = some r) : r.Ok := by
  unfold Machine.onRecord at hr
  split at hr
  · cases hr
    exact h.networks r (tabFind_mem ‹_›)
  · split at hr
    · cases hr
      exact OtherNetwork.fresh_ok pi
    · cases hr

/-- A record that is there, or that fits, can be written (43_group_types R121). -/
theorem putOn {pi : Word} {r r' : OtherNetwork} (hr : Machine.onRecord pi st.eon = some r) (hpi : r'.pi = r.pi)
    (hr' : r'.Ok) : Station.Ok p { st with eon := tabPut OtherNetwork.pi r' st.eon } := by
  obtain ⟨hwf, hlen⟩ := h.eon
  have hl : (tabPut OtherNetwork.pi r' st.eon).length ≤ Config.eonCap := by
    unfold Machine.onRecord at hr
    split at hr
    · rename_i x hx
      cases hr
      rw [tabPut_length_of_found hwf (by rw [hpi, tabFind_key hx, hx]; rfl)]
      exact hlen
    · split at hr
      · exact (tabPut_length_le _ _).trans ‹_›
      · cases hr
  refine ⟨h.ps, h.arch, ⟨tabPut_wf hwf, hl⟩, fun x hx => ?_, h.slots⟩
  rcases mem_tabPut hx with rfl | hx
  · exact hr'
  · exact h.networks x hx

end Station.Ok

/-! ## The rows of the group decoder -/

/-- `t` is `s` after some part of a group-type row: PI tracking and the parameters are as before, and the tables of the
station stay in order. -/
structure RowKeeps (s t : State) : Prop where
  pi : t.st.pi = s.st.pi
  suppress : t.suppress = s.suppress
  pimis : t.pimis = s.pimis
  params : t.params = s.params
  station : s.st.Ok s.params → t.st.Ok s.params

namespace RowKeeps

theorem refl (s : State) : RowKeeps s s := ⟨rfl, rfl, rfl, rfl, id⟩

theorem trans {s t u : State} (h : RowKeeps s t) (k : RowKeeps t u) : RowKeeps s u :=
  ⟨k.pi.trans h.pi, k.suppress.trans h.suppress, k.pimis.trans h.pimis, k.params.trans h.params,
    fun hs => h.params ▸ k.station (h.params ▸ h.station hs)⟩

theorem updSt {f : Station → Station} {s : State} (hpi : (f s.st).pi = s.st.pi)
    (hok : s.st.Ok s.params → (f s.st).Ok s.params) : RowKeeps s (s.updSt f) :=
  ⟨hpi, rfl, rfl, rfl, hok⟩

/-- A change of the station's other fields. -/
theorem updFields {f : Station → Station} {s : State} (hpi : (f s.st).pi = s.st.pi) (hps : (f s.st).ps = s.st.ps)
    (hrt : (f s.st).rt = s.st.rt) (heon : (f s.st).eon = s.st.eon) (hslot : (f s.st).slot = s.st.slot) :
    RowKeeps s (s.updSt f) :=
  updSt hpi fun h => ⟨hps ▸ h.ps, hrt ▸ h.arch, heon ▸ h.eon, heon ▸ h.networks, hslot ▸ h.slots⟩

theorem thenFields {f : Station → Station} {s u : State} (h : RowKeeps s u) (hpi : (f u.st).pi = u.st.pi)
    (hps : (f u.st).ps = u.st.ps) (hrt : (f u.st).rt = u.st.rt) (heon : (f u.st).eon = u.st.eon)
    (hslot : (f u.st).slot = u.st.slot) : RowKeeps s (u.updSt f) :=
  h.trans (updFields hpi hps hrt heon hslot)

theorem emitEvent (e : Event) (s : State) : RowKeeps s (s.emitEvent e) := ⟨rfl, rfl, rfl, rfl, id⟩

theorem emitMsg (m : TmcMsg) (bt : BitTime) (s : State) : RowKeeps s (emitMsg m bt s) := ⟨rfl, rfl, rfl, rfl, id⟩

theorem setPaging (v : Config.PagingState) (s : State) : RowKeeps s (s.setPaging v) := ⟨rfl, rfl, rfl, rfl, id⟩

/-! ### TMC -/

theorem withInstance {s : State} {slot : Slot} {o : OdaSlot} {t t' : TmcInst} (h : Holds s slot o t)
    (hok : t.Ok → t'.Ok) : RowKeeps s (withInstance s slot o t') := by
  obtain ⟨hslot, hhandler⟩ := h
  refine ⟨rfl, rfl, rfl, rfl, fun hs => hs.setSlot _ ?_⟩
  obtain ⟨hkind, htmc⟩ := hs.slots _ o hslot
  refine ⟨?_, fun x hx => ?_⟩
  · rw [← hkind, hhandler]
    rfl
  · cases hx
    exact hok (htmc t hhandler)

theorem withInst (slot : Slot) (bt : BitTime) {f : TmcInst → TmcInst × Option TmcMsg} (s : State)
    (hf : ∀ t, t.Ok → (f t).1.Ok) : RowKeeps s (withInst slot bt f s) := by
  cases hi : s.st.inst? slot with
  | none =>
    rw [withInst_empty hi]
    exact refl s
  | some t =>
    obtain ⟨o, ho⟩ := holds_of_inst hi
    rw [withInst_holds ho]
    split
    · exact (withInstance ho (hf t)).trans (emitMsg _ _ _)
    · exact withInstance ho (hf t)

theorem updInst (slot : Slot) {f : TmcInst → TmcInst} (s : State) (hf : ∀ t, t.Ok → (f t).Ok) :
    RowKeeps s (updInst slot f s) := withInst slot 0 s hf

theorem recvTmc (slot : Slot) (g : Group) (s : State) : RowKeeps s (recvTmc slot g s) := by
  unfold Machine.recvTmc
  split
  · unfold runTmc
    split
    · exact updInst _ s fun t h => runTuning_ok h _
    · exact withInst _ _ s fun t h => h
    · exact updInst _ s fun t h => firstInst_ok h _ _ _ _ _
    · exact withInst _ _ s fun t h => subsequentInst_ok h _ _ _ _ _ _
    · exact refl s
  · exact refl s

/-- A platform's RECV keeps the kind of its handler (43_group_types R116). -/
theorem recvPlatform {slot : Slot} {o : OdaSlot} {n : Nat} {state : Config.HandlerState} {g : Group} {s : State}
    (ho : s.st.slot[slotIndex slot] = some o) (hh : o.handler = some (.platform n state)) :
    RowKeeps s (recv slot g s) := by
  rw [recv_platform ho hh]
  refine updSt rfl fun hs => hs.setSlot _ ?_
  obtain ⟨hkind, -⟩ := hs.slots _ o ho
  refine ⟨?_, fun t ht => nomatch ht⟩
  rw [← hkind, hh]
  rfl

theorem recv (slot : Slot) (g : Group) (s : State) : RowKeeps s (recv slot g s) := by
  by_cases hp : ∃ n state, s.st.handler? slot = some (.platform n state)
  · obtain ⟨n, state, hp⟩ := hp
    unfold Station.handler? at hp
    split at hp
    · exact recvPlatform ‹_› hp
    · cases hp
  · rw [recv_eq_recvTmc fun n state e => hp ⟨n, state, e⟩]
    exact recvTmc slot g s

/-! ### Other networks -/

theorem updOn (pi : Word) {f : OtherNetwork → OtherNetwork} (s : State) (hf : ∀ r, r.Ok → (f r).Ok) :
    RowKeeps s (updOn pi f s) := by
  unfold Machine.updOn
  split
  · exact refl s
  · rename_i r hr
    exact updSt rfl fun hs => hs.putOn hr rfl (hf r (hs.onRecord hr))

theorem runEon (i : Instr) (s : State) : RowKeeps s (runEon i s) := by
  unfold Machine.runEon
  split
  case h_17 => exact refl s
  all_goals
    refine updOn _ s fun r h => ?_
    first
    | exact onPs_ok h _ _
    | exact onMapped_ok h _ _
    | exact h

theorem eon14A (g : GroupFields) (s : State) : RowKeeps s (eon14A g s) := by
  unfold Machine.eon14A
  split
  · split
    · exact refl s
    · have htp := updOn g.b3 (f := fun r => { r with tp := some (x4 g.x) }) s fun r h => h
      dsimp only
      split
      · exact htp.trans (runEon _ _)
      · exact htp
  · exact refl s

theorem taEvents (old : Option Bool) (ta : Bool) (g : GroupFields) (s : State) : RowKeeps s (taEvents old ta g s) := by
  unfold Machine.taEvents
  split
  · exact emitEvent _ s
  · split
    · exact emitEvent _ s
    · exact refl s

theorem eon14B (g : GroupFields) (s : State) : RowKeeps s (eon14B g s) := by
  unfold Machine.eon14B
  split
  · split
    · exact refl s
    · have hta := updOn g.b3 (f := fun r => { r with tp := some (x4 g.x), ta := some (x3 g.x) }) s fun r h => h
      exact hta.trans (taEvents _ _ _ _)
  · exact refl s

/-! ### Group types -/

theorem commonFields (slot : Slot) (g : GroupFields) (s : State) : RowKeeps s (commonFields slot g s) :=
  updFields rfl rfl rfl rfl rfl

theorem tuningBits (x : BitVec 5) (s : State) : RowKeeps s (s.updSt (Station.tuningBits x)) :=
  updFields rfl rfl rfl rfl rfl

theorem type0 (g : GroupFields) (s : State) : RowKeeps s (type0 g s) := by
  unfold Machine.type0
  dsimp only
  split
  · refine (tuningBits _ s).trans (updSt rfl fun h => ?_)
    exact ⟨write_ok h.ps _ _ _, h.arch, h.eon, h.networks, h.slots⟩
  · exact tuningBits _ s

theorem type0Af (g : GroupFields) (s : State) : RowKeeps s (type0Af g s) := by
  unfold Machine.type0Af
  split
  · exact updFields rfl rfl rfl rfl rfl
  · exact refl s

theorem slowLabelling (g : GroupFields) (s : State) : RowKeeps s (slowLabelling g s) := by
  have cfg : RowKeeps s (s.updSt fun st => { st with pagingCfg := some g.x }) := updFields rfl rfl rfl rfl rfl
  have pin (b3 : Word) : RowKeeps s ((s.updSt fun st => { st with pagingCfg := some g.x }).updSt fun st =>
      { st with pin := some b3 }) := cfg.thenFields rfl rfl rfl rfl rfl
  unfold Machine.slowLabelling
  cases blk3 g <;> cases blk2 g <;> dsimp only
  · exact cfg
  · split
    · exact thenFields (thenFields cfg rfl rfl rfl rfl rfl) rfl rfl rfl rfl rfl
    · exact thenFields cfg rfl rfl rfl rfl rfl
  · exact pin _
  · split
    · exact thenFields (thenFields (pin _) rfl rfl rfl rfl rfl) rfl rfl rfl rfl rfl
    · exact thenFields (pin _) rfl rfl rfl rfl rfl

theorem radiotext (g : GroupFields) (s : State) : RowKeeps s (radiotext g s) :=
  updSt rfl fun h => ⟨h.ps, rtWrite_arch h.arch _ _, h.eon, h.networks, h.slots⟩

theorem oda3A (g : GroupFields) (s : State) : RowKeeps s (oda3A g s) := by
  unfold Machine.oda3A
  split
  · exact refl s
  · rename_i aid _
    have route : RowKeeps s (s.updSt fun st =>
        { st with
          slot := st.slot.set (slotIndex (odaTarget g.x))
            (some (announced s.params aid st.slot[slotIndex (odaTarget g.x)])) }) :=
      updSt rfl fun h => h.setSlot _ (announced_ok (h.slots _) aid)
    dsimp only
    split
    · exact route.trans (recv _ _ _)
    · exact route

theorem clockTime (g : GroupFields) (s : State) : RowKeeps s (clockTime g s) := by
  unfold Machine.clockTime
  split
  · split
    · exact refl s
    · exact (updFields rfl rfl rfl rfl rfl).trans (emitEvent _ _)
  · exact refl s

theorem odaForward (slot : Slot) (g : GroupFields) (s : State) : RowKeeps s (odaForward slot g s) := recv _ _ s

theorem pagingOrOda (g : GroupFields) (s : State) : RowKeeps s (pagingOrOda g s) := by
  unfold Machine.pagingOrOda
  split
  · exact setPaging _ s
  · exact odaForward _ _ s

theorem tuning15B (g : GroupFields) (s : State) : RowKeeps s (tuning15B g s) := by
  unfold Machine.tuning15B
  dsimp only
  split
  · exact (tuningBits _ s).trans (tuningBits _ _)
  · exact tuningBits _ s

/-- Every group-type row, by the rule of its kind (30_encoding R68). -/
theorem groupRow (slot : Slot) (f : GroupFields) (s : State) : RowKeeps s (runGroup (groupRow slot f) s) := by
  unfold Sys2Proof.groupRow
  split
  all_goals
    first
    | exact commonFields _ _ s
    | exact (commonFields _ _ s).trans ((type0 _ _).trans (type0Af _ _))
    | exact (commonFields _ _ s).trans (type0 _ _)
    | exact (commonFields _ _ s).trans (slowLabelling _ _)
    | exact (commonFields _ _ s).trans (radiotext _ _)
    | exact (commonFields _ _ s).trans (oda3A _ _)
    | exact (commonFields _ _ s).trans (clockTime _ _)
    | exact (commonFields _ _ s).trans (odaForward _ _ _)
    | exact (commonFields _ _ s).trans (pagingOrOda _ _)
    | exact (commonFields _ _ s).trans (eon14A _ _)
    | exact (commonFields _ _ s).trans (eon14B _ _)
    | exact (commonFields _ _ s).trans (tuning15B _ _)

end RowKeeps

end Sys2Proof.Machine

end

section
/-! The invariant of `Safety.lean`, second part: PROCESS, the bit synchronizer, the commands and the step. -/

namespace Sys2Proof.Machine

open Sys2Proof

/-! ## GDEC between steps -/

/-- The part of `Inv` that GDEC keeps: PI tracking and the tables of the station. -/
structure GdecOk (s : State) : Prop where
  pi : PiOk s
  station : s.st.Ok s.params

namespace GdecOk

variable {s t : State}

theorem congr (h : GdecOk s) (hst : t.st = s.st) (hsup : t.suppress = s.suppress) (hpim : t.pimis = s.pimis)
    (hpar : t.params = s.params) : GdecOk t :=
  ⟨⟨by rw [hst, hsup]; exact h.pi.tracked, by rw [hpim, hpar]; exact h.pi.tolerated⟩, by rw [hst, hpar]; exact h.station⟩

theorem row (h : GdecOk s) (hr : RowKeeps s t) : GdecOk t where
  pi := ⟨by rw [hr.suppress, hr.pi]; exact h.pi.tracked, by rw [hr.pimis, hr.params]; exact h.pi.tolerated⟩
  station := hr.params ▸ hr.station h.station

/-- A state that tracks a PI, with PIMIS cleared: the gate may be open (42_group_dispatch R100). -/
theorem tracking (hpi : t.st.pi ≠ 0) (hpim : t.pimis = 0) (hst : t.st.Ok t.params) : GdecOk t :=
  ⟨⟨fun _ => hpi, hpim ▸ Nat.zero_le _⟩, hst⟩

theorem stationSeen {p : Params} {st : Station} (h : st.Ok p) (pi : Word) (bt : BitTime) :
    Station.Ok p { st with pi := pi, lastSeen := bt } :=
  ⟨h.ps, h.arch, h.eon, h.networks, h.slots⟩

theorem trackPi {pi : Word} (hpi : pi ≠ 0) (bt : BitTime) (h : s.st.Ok s.params) :
    GdecOk ((trackPi pi bt s).setSuppress false) :=
  tracking (by simpa [Machine.trackPi] using hpi) (by simp [Machine.trackPi])
    (by simpa [Machine.trackPi] using stationSeen h pi bt)

/-- PI_STEP on a station in order: a new PI starts from the station it found or from a fresh one. -/
theorem piStep (h : GdecOk s) {pi : Word} (hpi : pi ≠ 0) (bt : BitTime) : GdecOk (piStep pi bt s) := by
  rcases piStep_cases (bt := bt) (s := s) hpi with ⟨-, e⟩ | ⟨hne, -, e⟩ | ⟨-, -, htol, e⟩ | ⟨-, -, -, e⟩ <;> rw [e]
  · exact trackPi hpi bt h.station
  · exact tracking hne rfl (stationSeen h.station s.st.pi bt)
  · exact ⟨⟨h.pi.tracked, htol⟩, h.station⟩
  · refine trackPi hpi bt ?_
    rw [State.updSt_st]
    exact Station.fresh_ok _

theorem piStage (h : GdecOk s) (g : Group) : GdecOk (piStage g s) := by
  cases hp : groupPiv g with
  | false =>
    rw [piStage_without_pi hp]
    exact h
  | true =>
    obtain ⟨-, hpi⟩ := groupPiv_pi hp
    rw [piStage_with_pi hp]
    exact h.piStep hpi g.bt

/-- PROCESS keeps PI tracking and the tables of the station (42_group_dispatch R99). -/
theorem process (h : GdecOk s) (g : Group) : GdecOk (process g s) := by
  have hs := h.piStage g
  rcases process_cases g s with ⟨-, e⟩ | ⟨-, -, e⟩ | ⟨-, -, e⟩ <;> rw [e]
  · exact hs
  · exact hs.row (RowKeeps.updFields rfl rfl rfl rfl rfl)
  · exact hs.row (RowKeeps.groupRow _ _ _)

/-- SYNC_LOSS shuts the gate and clears PIMIS (42_group_dispatch R105). -/
theorem syncLoss (h : GdecOk s) : GdecOk (syncLoss s) :=
  ⟨⟨(nomatch ·), Nat.zero_le _⟩, h.station⟩

end GdecOk

/-! ## The bit synchronizer between steps -/

namespace BsyncOk

variable {s t : State}

theorem congr (h : BsyncOk s) (hst : SameBsync s t) : BsyncOk t := by
  obtain ⟨-, hsync, hhist, -, hbcnt, -, -, hgflg, hbadg, -, -⟩ := hst
  refine ⟨?_, ?_, ?_, ?_, ?_⟩
  · rw [hbcnt]
    exact h.bcnt
  · rw [hbadg]
    exact h.badg
  · rw [hhist]
    exact h.bucket
  · rw [hsync, hhist]
    exact h.synced
  · rw [hsync, hbcnt, hbadg, hgflg]
    exact h.unsynced

/-- A synchronised state is in order when its counters are in range and HIST is empty. -/
theorem of_synced (hs : s.sync = .synced) (hbcnt : s.bcnt < 26) (hbadg : s.badg < 10) (hhist : s.hist = emptyHist) :
    BsyncOk s where
  bcnt := hbcnt
  badg := hbadg
  bucket k := by simp [hhist, emptyHist]
  synced _ := hhist
  unsynced hu := by rw [hs] at hu; cases hu

/-- An unsynchronised state is in order when its counters and flags are clear and no bucket is over the threshold. -/
theorem of_unsynced (hs : s.sync = .unsynced) (hbcnt : s.bcnt = 0) (hbadg : s.badg = 0)
    (hgflg : s.gflg = Vector.replicate 4 false) (hbucket : ∀ k : Fin 104, s.hist[k].length ≤ Config.syncThreshold) :
    BsyncOk s where
  bcnt := by omega
  badg := by rw [hbadg]; decide
  bucket := hbucket
  synced hu := by rw [hs] at hu; cases hu
  unsynced _ := ⟨hbcnt, hbadg, hgflg⟩

/-! ### Acquisition (41_synchronizer R88 and R89) -/

theorem declare (p : Fin 4) (s : State) : BsyncOk (declare p s) := of_synced rfl (Nat.zero_lt_succ _) (Nat.zero_lt_succ _) rfl

/-- A match leaves its bucket within the threshold, or declares synchronisation and empties HIST. -/
theorem recordMatch (h : BsyncOk s) (hs : s.sync = .unsynced) (p : Fin 4) : BsyncOk (recordMatch p s) := by
  rcases recordMatch_cases p s with ⟨hlen, e⟩ | ⟨-, e⟩ <;> rw [e]
  · obtain ⟨hbcnt, hbadg, hgflg⟩ := h.unsynced hs
    refine of_unsynced hs hbcnt hbadg hgflg fun k => ?_
    simp only [State.setHist_hist, Fin.getElem_fin, Vector.getElem_set]
    split
    · exact hlen
    · exact h.bucket k
  · exact declare p s

/-! ### Framing (41_synchronizer R90 to R92) -/

theorem frameBlock (h : BsyncOk s) (hs : s.sync = .synced) : BsyncOk (frameBlock s) :=
  of_synced hs (Nat.zero_lt_succ _) h.badg (h.synced hs)

theorem kept (hs : s.sync = .synced) (hbcnt : s.bcnt < 26) (hhist : s.hist = emptyHist) {badg : Nat}
    (hbadg : badg < 10) : BsyncOk (clearFlags (s.setBadg badg)) := of_synced hs hbcnt hbadg hhist

theorem lost (s : State) : BsyncOk (clearFlags (lose s)) :=
  of_unsynced rfl rfl rfl rfl fun k => by simp [clearFlags, lose, syncLoss, emptyHist]

end BsyncOk

theorem GdecOk.kept {s : State} (h : GdecOk s) (badg : Nat) : GdecOk (clearFlags (s.setBadg badg)) :=
  h.congr rfl rfl rfl rfl

theorem GdecOk.lost {s : State} (h : GdecOk s) : GdecOk (clearFlags (lose s)) :=
  have hs : GdecOk (((((s.setSync .unsynced).setBadg 0).setBcnt 0).setHist emptyHist).logSync (.lostSync s.bt)) :=
    h.congr rfl rfl rfl rfl
  hs.syncLoss.congr rfl rfl rfl rfl

/-! ## BIT (41_synchronizer R87) -/

/-- The part of `Inv` that is not about LT. -/
structure EngineOk (s : State) : Prop where
  bsync : BsyncOk s
  gdec : GdecOk s

namespace EngineOk

variable {s : State}

theorem shiftIn (h : EngineOk s) (b : Bool) : EngineOk (s.shiftIn b) :=
  ⟨⟨h.bsync.bcnt, h.bsync.badg, h.bsync.bucket, h.bsync.synced, h.bsync.unsynced⟩, h.gdec.congr rfl rfl rfl rfl⟩

theorem acquire (h : EngineOk s) (hs : s.sync = .unsynced) : EngineOk (acquire s) := by
  unfold Machine.acquire
  split
  · exact h
  · split
    · exact h
    · rename_i p _
      refine ⟨h.bsync.recordMatch hs p, ?_⟩
      rcases recordMatch_cases p s with ⟨-, e⟩ | ⟨-, e⟩ <;> rw [e] <;> exact h.gdec.congr rfl rfl rfl rfl

theorem setCur (h : EngineOk s) (c : Fin 4) : EngineOk (s.setCur c) :=
  ⟨⟨h.bsync.bcnt, h.bsync.badg, h.bsync.bucket, h.bsync.synced, h.bsync.unsynced⟩, h.gdec.congr rfl rfl rfl rfl⟩

theorem frameBlock (h : EngineOk s) (hs : s.sync = .synced) : EngineOk (frameBlock s) :=
  ⟨h.bsync.frameBlock hs, h.gdec.congr rfl rfl rfl rfl⟩

/-- COMPLETE processes its group, and then keeps BADG below the limit or loses synchronisation. -/
theorem complete (h : EngineOk s) (hs : s.sync = .synced) : EngineOk (complete s) := by
  have hp : GdecStep (s.emitGroup (completedGroup s)) _ := GdecStep.process (completedGroup s) _
  obtain ⟨-, hsync, hhist, -, hbcnt, -⟩ := hp.bsync
  have hg := (h.gdec.congr (t := s.emitGroup (completedGroup s)) rfl rfl rfl rfl).process (completedGroup s)
  rcases Nat.lt_or_ge (badgAfter (completedGroup s)
    (Machine.process (completedGroup s) (s.emitGroup (completedGroup s))).badg) 10 with hb | hb
  · rw [complete_kept hb]
    exact ⟨.kept (hsync.trans hs) (hbcnt.trans_lt h.bsync.bcnt) (hhist.trans (h.bsync.synced hs)) hb, hg.kept _⟩
  · rw [complete_lost hb]
    exact ⟨.lost _, (hg.congr (t := State.setBadg _ _) rfl rfl rfl rfl).lost⟩

theorem frame (h : EngineOk s) (hs : s.sync = .synced) : EngineOk (frame s) := by
  rcases Nat.lt_or_ge s.bcnt 25 with hb | hb
  · rw [frame_inside hb]
    have hlt : s.bcnt + 1 < 26 := by omega
    exact ⟨.of_synced hs hlt h.bsync.badg (h.bsync.synced hs), h.gdec.congr rfl rfl rfl rfl⟩
  · by_cases hc : s.cur = 3
    · rw [frame_group hb hc]
      exact ((h.frameBlock hs).complete hs).setCur 0
    · rw [frame_block hb hc]
      exact (h.frameBlock hs).setCur _

theorem bitStep (h : EngineOk s) (b : Bool) : EngineOk (bitStep b s) := by
  cases hs : s.sync with
  | unsynced =>
    rw [bitStep_unsynced hs]
    exact (h.shiftIn b).acquire hs
  | synced =>
    rw [bitStep_synced hs]
    exact (h.shiftIn b).frame hs

theorem process (h : EngineOk s) (g : Group) : EngineOk (process g s) :=
  ⟨h.bsync.congr (GdecStep.process g s).bsync, h.gdec.process g⟩

theorem endOfStream (h : EngineOk s) : EngineOk (endOfStream s) := by
  refine ⟨h.bsync.congr (sameBsync_endOfStream s), ?_⟩
  rw [endOfStream_frame]
  exact h.gdec.congr rfl rfl rfl rfl

theorem setReply (h : EngineOk s) (r : Reply) : EngineOk (s.setReply r) :=
  ⟨h.bsync.congr (sameBsync_setReply s r), h.gdec.congr rfl rfl rfl rfl⟩

theorem raise (h : EngineOk s) (r : FaultReason) : EngineOk (s.raise r) :=
  ⟨h.bsync.congr (sameBsync_raise s r), h.gdec.congr rfl rfl rfl rfl⟩

/-- A state whose engine is that of the reset table is in order, whatever its parameters and LT. -/
theorem of_reset {e : Engine} (he : s.toEngine = resetEngine e) : EngineOk s := by
  obtain ⟨engine, freq, params, lt, port, reply⟩ := s
  cases he
  refine ⟨.of_unsynced rfl rfl rfl rfl fun k => ?_, ⟨?_, Nat.zero_le _⟩, Station.fresh_ok _⟩
  · simp [Engine.reset]
  · exact (nomatch ·)

end EngineOk

/-! ## Commands and steps -/

/-- Every command keeps the engine in order. -/
theorem exec_engineOk {i : Instr} {s t : State} {f : Frame} (hi : encode i = .command f) (h : exec i s = .next t)
    (hs : EngineOk s) : EngineOk t := by
  cases exec_next h with
  | reset _ ht => exact .of_reset (e := s.toEngine) (by rw [ht])
  | bit b _ _ ht => exact ht ▸ (hs.bitStep b).setReply _
  | eos _ _ ht => exact ht ▸ hs.endOfStream.setReply _
  | groupIn fl v bt _ _ ht => exact ht ▸ (hs.process _).setReply _
  | reply _ _ _ r ht => exact ht ▸ hs.setReply r
  | fault _ _ _ r ht => exact ht ▸ hs.raise r
  | row _ _ _ hc _ => exact absurd hi (hc f)

theorem Inv.engine {s : State} (h : Inv s) : EngineOk s := ⟨h.bsync, h.pi, h.station⟩

theorem EngineOk.inv {s : State} (h : EngineOk s) (hm : Memory.wf s.lt) : Inv s :=
  ⟨h.bsync, h.gdec.pi, h.gdec.station, hm⟩

/-- A state with the same engine, parameters and LT is as good. -/
theorem Inv.congr {s t : State} (h : Inv s) (he : t.toEngine = s.toEngine) (hp : t.params = s.params)
    (hm : t.lt = s.lt) : Inv t := by
  obtain ⟨engine, freq, params, lt, port, reply⟩ := t
  cases he
  cases hp
  cases hm
  obtain ⟨hb, hpi, hst, hmem⟩ := h
  exact ⟨⟨hb.bcnt, hb.badg, hb.bucket, hb.synced, hb.unsynced⟩, ⟨hpi.tracked, hpi.tolerated⟩, hst, hmem⟩

end Sys2Proof.Machine

open Sys2Proof Sys2Proof.Machine

/-- Settles O7: a command keeps the engine in order and leaves LT, and the other port items write neither. -/
theorem everyStepKeepsTheInvariant : Obligations.EveryStepKeepsTheInvariant := by
  unfold Obligations.EveryStepKeepsTheInvariant
  intro s t hs h
  rcases step_next h with ⟨-, rfl⟩ | ⟨khz, rest, -, rfl⟩ | ⟨f, rest, -, hx⟩
  · exact hs
  · exact hs.congr rfl rfl rfl
  · obtain ⟨f', hf⟩ := encode_decodeCommand f
    have hr : Inv (s.setPort rest) := hs.congr rfl rfl rfl
    exact (exec_engineOk hf hx hr.engine).inv (exec_memory_wf hx hr.memory)

end

section
/-! SNAPSHOT (20_memory R58). -/

namespace Sys2Proof.Machine

open Sys2Proof

/-- SNAPSHOT has no guard: it runs in every state, and writes the reply alone. -/
theorem execSnapshot_runs (s : State) : exec .snapshot s = .next (s.setReply (.image s.toEngine)) := rfl

end Sys2Proof.Machine

open Sys2Proof Sys2Proof.Machine

/-- Settles O14: the reply that SNAPSHOT writes is the image of the engine before it. -/
theorem snapshotResult : Obligations.SnapshotResult := by
  unfold Obligations.SnapshotResult
  intro s
  exact execSnapshot_runs s

end

section
/-! The encoding (30_encoding): each of the six decoders reads back what the encoder lays out, and a step of the machine runs
what the command decoder reads. -/

namespace Sys2Proof.Machine

open Sys2Proof

/-! ## Command words (30_encoding R60) -/

section Command

variable {f : Frame}

theorem decodeCommand_bit (h : f.word.extractLsb' 0 4 = 0x2) : decodeCommand f = .bit (f.word.getLsbD 4) := by
  unfold decodeCommand
  rw [h]
  rfl

theorem decodeCommand_groupIn (h : f.word.extractLsb' 0 4 = 0x4) :
    decodeCommand f = .groupIn (wordFlags f.word) f.values f.bt := by
  unfold decodeCommand
  rw [h]
  rfl

theorem decodeCommand_locOffset (h : f.word.extractLsb' 0 4 = 0x6) :
    decodeCommand f = .locOffset (Dir.ofBit (f.word.getLsbD 4)) f.keyA f.extent := by
  unfold decodeCommand
  rw [h]
  rfl

theorem decodeCommand_locEnclosing (h : f.word.extractLsb' 0 4 = 0x7) :
    decodeCommand f = .locEnclosing f.keyA (if f.keyBValid then some f.keyB else none) := by
  unfold decodeCommand
  rw [h]
  rfl

theorem decodeCommand_locCompare (h : f.word.extractLsb' 0 4 = 0x8) :
    decodeCommand f = .locCompare (f.word.getLsbD 4) f.keyA f.keyB := by
  unfold decodeCommand
  rw [h]
  rfl

end Command

theorem Dir.ofBit_bit (d : Dir) : Dir.ofBit d.bit = d := by
  cases d <;> rfl

theorem decode_bit (b : Bool) : decode (encode (.bit b)) = .ok (.bit b) := by
  have h := decodeCommand_bit (f := .ofWord (commandWord (bitNibble b) 0x2)) (commandWord_op _ _)
  exact congrArg Except.ok (h.trans (congrArg Instr.bit (commandWord_bit b _)))

theorem decode_groupIn (flags : Vector Bool 4) (values : Vector Word 4) (bt : BitTime) :
    decode (encode (.groupIn flags values bt)) = .ok (.groupIn flags values bt) := by
  simp only [encode, decode]
  rw [decodeCommand_groupIn (commandWord_op _ _)]
  simp only [Frame.ofWord, commandWord_flags]

theorem decode_locOffset (d : Dir) (k : LocKey) (e : BitVec 32) :
    decode (encode (.locOffset d k e)) = .ok (.locOffset d k e) := by
  simp only [encode, decode]
  rw [decodeCommand_locOffset (commandWord_op _ _)]
  simp only [Frame.ofWord, commandWord_bit, Dir.ofBit_bit]

theorem decode_locEnclosing (k : LocKey) (sec : Option LocKey) :
    decode (encode (.locEnclosing k sec)) = .ok (.locEnclosing k sec) := by
  cases sec <;> simp only [encode, decode] <;> rw [decodeCommand_locEnclosing (commandWord_op _ _)] <;> rfl

theorem decode_locCompare (neg : Bool) (lhs rhs : LocKey) :
    decode (encode (.locCompare neg lhs rhs)) = .ok (.locCompare neg lhs rhs) := by
  simp only [encode, decode]
  rw [decodeCommand_locCompare (commandWord_op _ _)]
  simp only [Frame.ofWord, commandWord_bit]

/-! ## TMC forms (30_encoding R69) -/

theorem getLsbD_append_high {m n : Nat} (x : BitVec m) (y : BitVec n) (i : Nat) :
    (x ++ y).getLsbD (i + n) = x.getLsbD i := by
  rw [BitVec.getLsbD_append, if_neg (by omega), Nat.add_sub_cancel]

/-- X of a form other than TUNING: two bits that tell the forms apart, and DP or CI. -/
theorem formX_layout (hi : BitVec 2) (ci : BitVec 3) :
    (hi ++ ci).getLsbD 4 = hi.getLsbD 1 ∧ (hi ++ ci).getLsbD 3 = hi.getLsbD 0 ∧ (hi ++ ci).extractLsb' 0 3 = ci :=
  ⟨getLsbD_append_high hi ci 1, getLsbD_append_high hi ci 0, BitVec.extractLsb'_append_eq_right⟩

/-- Block 2 of a form other than TUNING: two flags, a short field and a long one. -/
theorem formB2_layout {a b : Nat} (p q : Bool) (r : BitVec a) (s : BitVec b) :
    let w := BitVec.ofBool p ++ BitVec.ofBool q ++ r ++ s
    w.getLsbD (1 + a + b) = p ∧ w.getLsbD (0 + a + b) = q ∧ w.extractLsb' b a = r ∧ w.extractLsb' 0 b = s := by
  refine ⟨?_, ?_, ?_, BitVec.extractLsb'_append_eq_right⟩
  · rw [getLsbD_append_high, getLsbD_append_high]
    exact (getLsbD_append_high _ _ 0).trans (BitVec.getLsbD_ofBool p 0)
  · rw [getLsbD_append_high, getLsbD_append_high, BitVec.getLsbD_append, if_pos Nat.one_pos]
    exact BitVec.getLsbD_ofBool q 0
  · rw [BitVec.extractLsb'_append_eq_of_le le_rfl, Nat.sub_self, BitVec.extractLsb'_append_eq_right]

theorem tmcForm_tuning (slot : Slot) (n : BitVec 4) (b2 b3 : Word) (bt : BitTime) :
    tmcForm slot ((1 : BitVec 1) ++ n) b2 b3 bt = .tmcTuning slot n b2 b3 := by
  have htop : ((1 : BitVec 1) ++ n).getLsbD 4 = true := getLsbD_append_high 1 n 0
  have hlow : ((1 : BitVec 1) ++ n).extractLsb' 0 4 = n := BitVec.extractLsb'_append_eq_right
  rw [tmcForm, if_pos htop, hlow]

theorem tmcForm_single (slot : Slot) (dp : BitVec 3) (div dir : Bool) (ext : BitVec 3) (evt : BitVec 11) (loc : Word)
    (bt : BitTime) :
    tmcForm slot ((1 : BitVec 2) ++ dp) (BitVec.ofBool div ++ BitVec.ofBool dir ++ ext ++ evt) loc bt =
      .tmcSingle slot dp div dir ext evt loc bt := by
  obtain ⟨h4, h3, hdp⟩ := formX_layout 1 dp
  obtain ⟨hdiv, hdir, hext, hevt⟩ := formB2_layout div dir ext evt
  rw [tmcForm, h4, h3, hdp, hdiv, hdir, hext, hevt]
  rfl

theorem tmcForm_first (slot : Slot) (ci : BitVec 3) (dir : Bool) (ext : BitVec 3) (evt : BitVec 11) (loc : Word)
    (bt : BitTime) :
    tmcForm slot ((0 : BitVec 2) ++ ci) ((1 : BitVec 1) ++ BitVec.ofBool dir ++ ext ++ evt) loc bt =
      .tmcFirst slot ci dir ext evt loc := by
  obtain ⟨h4, h3, hci⟩ := formX_layout 0 ci
  obtain ⟨htop, hdir, hext, hevt⟩ := formB2_layout true dir ext evt
  rw [tmcForm, h4, h3, hci, show (1 : BitVec 1) = BitVec.ofBool true from rfl, htop, hdir, hext, hevt]
  rfl

theorem tmcForm_subsequent (slot : Slot) (ci : BitVec 3) (sg : Bool) (gsi : BitVec 2) (free12 : BitVec 12)
    (free16 : Word) (bt : BitTime) :
    tmcForm slot ((0 : BitVec 2) ++ ci) ((0 : BitVec 1) ++ BitVec.ofBool sg ++ gsi ++ free12) free16 bt =
      .tmcSubsequent slot ci sg gsi free12 free16 bt := by
  obtain ⟨h4, h3, hci⟩ := formX_layout 0 ci
  obtain ⟨htop, hsg, hgsi, hfree⟩ := formB2_layout false sg gsi free12
  rw [tmcForm, h4, h3, hci, show (0 : BitVec 1) = BitVec.ofBool false from rfl, htop, hsg, hgsi, hfree]
  rfl

/-! ## Alert-C records (30_encoding R73) -/

/-- A record whose value fills its field decodes to the row of its label. -/
theorem decode_recordCode {slot : Slot} {label w : Nat} {row : BitVec w → Instr} (val : BitVec w) (hl : label < 16)
    (hw : labelSize label = w) (hrow : ∀ v, labelRow slot label v = row (BitVec.ofNat w v)) :
    decode (recordCode slot label val.toNat) = .ok (row val) := by
  rw [decode_record slot label val.toNat hl (hw ▸ val.isLt), hrow, BitVec.ofNat_toNat, BitVec.setWidth_eq]

/-! ## The six tables together -/

theorem decode_encode (i : Instr) (h : i.wf) : decode (encode i) = .ok i := by
  cases i
  case reserved0 | reset | eos | snapshot => rfl
  case reserved9 | reservedA | reservedB | reservedC | reservedD | reservedE | reservedF => rfl
  case bit b => exact decode_bit b
  case groupIn flags values bt => exact decode_groupIn flags values bt
  case locOffset d k e => exact decode_locOffset d k e
  case locEnclosing k sec => exact decode_locEnclosing k sec
  case locCompare neg lhs rhs => exact decode_locCompare neg lhs rhs
  case tmcTuning slot n b2 b3 => exact (decode_tmcGroup slot h _ _ _ _).trans (congrArg _ (tmcForm_tuning ..))
  case tmcSingle slot dp div dir ext evt loc bt =>
    exact (decode_tmcGroup slot h _ _ _ _).trans (congrArg _ (tmcForm_single ..))
  case tmcFirst slot ci dir ext evt loc =>
    exact (decode_tmcGroup slot h _ _ _ _).trans (congrArg _ (tmcForm_first ..))
  case tmcSubsequent slot ci sg gsi free12 free16 bt =>
    exact (decode_tmcGroup slot h _ _ _ _).trans (congrArg _ (tmcForm_subsequent ..))
  case group0A f | group0B f | group1A f | group1B f | group2A f | group2B f | group3A f | group3B f |
      group4A f | group4B f | group5A f | group5B f | group6A f | group6B f | group7A f | group7B f |
      group8A f | group8B f | group9A f | group9B f | group10A f | group10B f | group11A f | group11B f |
      group12A f | group12B f | group13A f | group13B f | group14A f | group14B f | group15A f | group15B f =>
    exact decode_group _ f
  case alertcL0 slot val | alertcL1 slot val | alertcL2 slot val | alertcL3 slot val | alertcL4 slot val |
      alertcL5 slot val | alertcL6 slot val | alertcL7 slot val | alertcL8 slot val | alertcL9 slot val |
      alertcL10 slot val | alertcL11 slot val | alertcL12 slot val | alertcL13 slot val =>
    exact decode_recordCode val (by decide) rfl fun _ => rfl
  case alertcL14 slot | alertcL15 slot =>
    exact decode_record slot _ 0 (by decide) (by decide)
  case eon14aV0 piOn b2 | eon14aV1 piOn b2 | eon14aV2 piOn b2 | eon14aV3 piOn b2 | eon14aV4 piOn b2 |
      eon14aV5 piOn b2 | eon14aV6 piOn b2 | eon14aV7 piOn b2 | eon14aV8 piOn b2 | eon14aV9 piOn b2 |
      eon14aV10 piOn b2 | eon14aV11 piOn b2 | eon14aV12 piOn b2 | eon14aV13 piOn b2 | eon14aV14 piOn b2 |
      eon14aV15 piOn b2 =>
    rfl
  case tmcTuningV0 slot b2 b3 | tmcTuningV1 slot b2 b3 | tmcTuningV2 slot b2 b3 | tmcTuningV3 slot b2 b3 |
      tmcTuningV4 slot b2 b3 | tmcTuningV5 slot b2 b3 | tmcTuningV6 slot b2 b3 | tmcTuningV7 slot b2 b3 |
      tmcTuningV8 slot b2 b3 | tmcTuningV9 slot b2 b3 | tmcTuningV10 slot b2 b3 | tmcTuningV11 slot b2 b3 |
      tmcTuningV12 slot b2 b3 | tmcTuningV13 slot b2 b3 | tmcTuningV14 slot b2 b3 | tmcTuningV15 slot b2 b3 =>
    rfl

/-! ## The step of a command (20_memory R53) -/

/-- A command at the port is executed, the port moved past it. -/
theorem step_command {s : State} {f : Frame} {rest : List PortItem} (h : s.port = .command f :: rest) :
    step s = exec (decodeCommand f) (s.setPort rest) := by
  simp only [step, h, portStep]

end Sys2Proof.Machine

open Sys2Proof Sys2Proof.Machine

/-- Settles O5, by the case analysis over the six tables in `decode_encode`. -/
theorem decodeOfEncodeIsTheInstruction : Obligations.DecodeOfEncodeIsTheInstruction := by
  unfold Obligations.DecodeOfEncodeIsTheInstruction
  exact decode_encode

/-- Settles O2: the command decoder is total, so the step runs what it reads. -/
theorem stepRunsTheDecodedCommand : Obligations.StepRunsTheDecodedCommand := by
  unfold Obligations.StepRunsTheDecodedCommand
  intro s f rest i hp hd _
  have hi : decodeCommand f = i := Except.ok.inj hd
  rw [step_command hp, hi]
  rfl

/-- Settles O4: the model's decoders run on the written-out words. -/
theorem writtenWordsDecode : Obligations.WrittenWordsDecode := by
  unfold Obligations.WrittenWordsDecode
  decide

end

section
/-! The hex dump (30_encoding R72): the reader of fields and blocks undoes the writer, and so do the readers of a line and of a
dump. -/

namespace Sys2Proof.Machine

open Sys2Proof

/-! ## Fields -/

/-- A character of a block field: no blank, and no mark of another kind of line. -/
def FieldChar (c : Char) : Prop := isBlank c = false ∧ c ≠ '%' ∧ c ≠ '<'

section Fields

variable {w : List Char}

/-- The splitter takes the characters of a field into the field being read. -/
theorem splitFields_append (hw : ∀ c ∈ w, FieldChar c) (cur rest : List Char) :
    splitFields cur (w ++ rest) = splitFields (w.reverse ++ cur) rest := by
  induction w generalizing cur with
  | nil => rfl
  | cons c w ih =>
    obtain ⟨hc, -, -⟩ := hw c List.mem_cons_self
    rw [List.cons_append, splitFields, hc, if_neg Bool.false_ne_true, ih fun d hd => hw d (List.mem_cons_of_mem c hd),
      List.reverse_cons, List.append_assoc, List.singleton_append]

theorem splitFields_space (hw : ∀ c ∈ w, FieldChar c) (hne : w ≠ []) (rest : List Char) :
    splitFields [] (w ++ ' ' :: rest) = w :: splitFields [] rest := by
  have hspace : isBlank ' ' = true := rfl
  rw [splitFields_append hw, List.append_nil, splitFields, if_pos hspace, if_neg (by simpa using hne),
    List.reverse_reverse]

theorem splitFields_last (hw : ∀ c ∈ w, FieldChar c) (hne : w ≠ []) : splitFields [] w = [w] := by
  have h := splitFields_append hw [] []
  rw [List.append_nil, List.append_nil] at h
  rw [h, splitFields, if_neg (by simpa using hne), List.reverse_reverse]

end Fields

/-! ## Blocks -/

theorem hexDigit_hexChars : ∀ n < 16, hexDigit (hexChars.getD n '0') = some n := by decide

theorem hexChars_fieldChar : ∀ n < 16, FieldChar (hexChars.getD n '0') := by
  unfold FieldChar
  decide

theorem hexChars_ne_mark : ∀ n < 16, hexChars.getD n '0' ≠ '-' := by decide

theorem writeBlock_ne_nil (flag : Bool) (v : Word) : writeBlock flag v ≠ [] := by
  cases flag <;> exact List.cons_ne_nil _ _

theorem writeBlock_fieldChar (flag : Bool) (v : Word) : ∀ c ∈ writeBlock flag v, FieldChar c := by
  cases flag with
  | false =>
    have hmark : writeBlock false v = List.replicate 4 '-' := rfl
    intro c hc
    rw [hmark] at hc
    rw [List.eq_of_mem_replicate hc]
    exact ⟨rfl, by decide, by decide⟩
  | true =>
    have hv := v.isLt
    simp only [writeBlock, if_true, List.forall_mem_cons]
    exact ⟨hexChars_fieldChar _ (by omega), hexChars_fieldChar _ (by omega), hexChars_fieldChar _ (by omega),
      hexChars_fieldChar _ (by omega), List.forall_mem_nil _⟩

theorem readBlock_hexChars {a b c d : Nat} (ha : a < 16) (hb : b < 16) (hc : c < 16) (hd : d < 16) :
    readBlock [hexChars.getD a '0', hexChars.getD b '0', hexChars.getD c '0', hexChars.getD d '0'] =
      some (true, BitVec.ofNat 16 (4096 * a + 256 * b + 16 * c + d)) := by
  have hmark : [hexChars.getD a '0', hexChars.getD b '0', hexChars.getD c '0', hexChars.getD d '0'] ≠ "----".toList :=
    fun h => hexChars_ne_mark a ha (List.cons.inj h).1
  rw [readBlock, if_neg hmark]
  simp only [hexDigit_hexChars a ha, hexDigit_hexChars b hb, hexDigit_hexChars c hc, hexDigit_hexChars d hd]
  rfl

/-- The block reader undoes the block writer; an invalid block is read with value 0. -/
theorem readBlock_writeBlock (flag : Bool) (v : Word) :
    readBlock (writeBlock flag v) = some (flag, if flag then v else 0) := by
  cases flag with
  | false => rfl
  | true =>
    have hv := v.isLt
    have hsum : 4096 * (v.toNat / 4096) + 256 * (v.toNat / 256 % 16) + 16 * (v.toNat / 16 % 16) + v.toNat % 16 =
        v.toNat := by omega
    rw [writeBlock, if_pos rfl, readBlock_hexChars (by omega) (by omega) (by omega) (by omega), hsum,
      BitVec.ofNat_toNat, BitVec.setWidth_eq, if_pos rfl]

/-! ## Lines -/

/-- The values a reader gives a written group: 0 for an invalid block. -/
def shownValues (flags : Vector Bool 4) (values : Vector Word 4) : Vector Word 4 :=
  #v[if flags[0] then values[0] else 0, if flags[1] then values[1] else 0, if flags[2] then values[2] else 0,
    if flags[3] then values[3] else 0]

/-- A line that begins with a character of a field is a group line. -/
theorem readLine_fieldChar {c : Char} (hc : FieldChar c) (rest : List Char) :
    readLine (c :: rest) = readGroup (c :: rest) := by
  obtain ⟨hblank, hpercent, hangle⟩ := hc
  rw [readLine, List.dropWhile_cons_of_neg (by simp [hblank])]
  simp only [if_neg hpercent, if_neg hangle]

theorem splitFields_writeGroup (flags : Vector Bool 4) (values : Vector Word 4) :
    splitFields [] (writeGroup flags values) = [writeBlock flags[0] values[0], writeBlock flags[1] values[1],
      writeBlock flags[2] values[2], writeBlock flags[3] values[3]] := by
  simp only [writeGroup, List.append_assoc, List.cons_append, List.nil_append]
  rw [splitFields_space (writeBlock_fieldChar _ _) (writeBlock_ne_nil _ _),
    splitFields_space (writeBlock_fieldChar _ _) (writeBlock_ne_nil _ _),
    splitFields_space (writeBlock_fieldChar _ _) (writeBlock_ne_nil _ _),
    splitFields_last (writeBlock_fieldChar _ _) (writeBlock_ne_nil _ _)]

theorem readGroup_writeGroup (flags : Vector Bool 4) (values : Vector Word 4) :
    readGroup (writeGroup flags values) = .group flags (shownValues flags values) := by
  have hflags : #v[flags[0], flags[1], flags[2], flags[3]] = flags := by
    ext i hi
    interval_cases i <;> rfl
  simp only [readGroup, splitFields_writeGroup, List.map_cons, List.map_nil, readBlock_writeBlock]
  rw [hflags]
  rfl

theorem readLine_writeGroup (flags : Vector Bool 4) (values : Vector Word 4) :
    readLine (writeGroup flags values) = .group flags (shownValues flags values) := by
  obtain ⟨c, w, hw⟩ := List.exists_cons_of_ne_nil (writeBlock_ne_nil flags[0] values[0])
  have hc : FieldChar c := writeBlock_fieldChar flags[0] values[0] c (hw ▸ List.mem_cons_self)
  obtain ⟨rest, hrest⟩ : ∃ rest, writeGroup flags values = c :: rest := by
    simp only [writeGroup, hw, List.cons_append]
    exact ⟨_, rfl⟩
  rw [hrest, readLine_fieldChar hc, ← hrest, readGroup_writeGroup]

/-! ## Dumps -/

/-- The port item of the k-th written group, counted from 0, of a dump whose n-th group is delivered at `time n`. -/
def replayedItem (time : Nat → BitTime) (k : Nat) (g : Vector Bool 4 × Vector Word 4) : PortItem :=
  .command (groupInFrame g.1 (shownValues g.1 g.2) (time (k + 1)))

/-- Reading written groups after `n` groups: one GROUP_IN each, in order, and no line refused. -/
theorem readDumpFrom_writeGroup (time : Nat → BitTime) (groups : List (Vector Bool 4 × Vector Word 4)) (lineNo n : Nat) :
    readDumpFrom time lineNo n (groups.map fun g => writeGroup g.1 g.2) =
      ⟨groups.mapIdx fun k g => replayedItem time (n + k) g, []⟩ := by
  induction groups generalizing lineNo n with
  | nil => rfl
  | cons g groups ih =>
    simp only [List.map_cons, readDumpFrom, readLine_writeGroup, ih, List.mapIdx_cons, replayedItem,
      Nat.add_assoc, Nat.add_comm 1]

/-- A dump of written groups delivers each group, as shown, with its own bit-time. -/
theorem readDumpWith_writeGroup (time : Nat → BitTime) (groups : List (Vector Bool 4 × Vector Word 4)) :
    let d := readDumpWith time (groups.map fun g => writeGroup g.1 g.2)
    d.refused = [] ∧ d.items.length = groups.length ∧ ∀ n g, groups[n]? = some g →
      ∃ f, d.items[n]? = some (.command f) ∧
        decode (.command f) = .ok (.groupIn g.1 (shownValues g.1 g.2) (time (n + 1))) := by
  rw [readDumpWith, readDumpFrom_writeGroup]
  refine ⟨rfl, List.length_mapIdx, fun n g hg => ⟨_, ?_, decode_groupIn g.1 (shownValues g.1 g.2) (time (n + 1))⟩⟩
  rw [List.getElem?_mapIdx, hg, Nat.zero_add]
  rfl

end Sys2Proof.Machine

open Sys2Proof Sys2Proof.Machine

/-- Settles O60: a line is read back field by field, and a dump line by line; `readDump` is the case of 104 n. -/
theorem hexDumpLineRoundTrip : Obligations.HexDumpLineRoundTrip := by
  unfold Obligations.HexDumpLineRoundTrip
  exact ⟨readLine_writeGroup, fun time groups =>
    ⟨readDumpWith_writeGroup time groups, readDumpWith_writeGroup replayTime groups⟩⟩

end

section
/-! SYNROM (40_syndrome_rom): SYNDROME and the check bits are additive over GF(2), so an equation between them holds for every
word as soon as it holds on the words of a single 1; and what MATCH and POS say of a syndrome. -/

namespace Sys2Proof.Machine

open Sys2Proof

/-! ## Additive functions of words -/

/-- f is linear over GF(2). -/
def XorAdditive {m n : Nat} (f : BitVec m → BitVec n) : Prop :=
  ∀ a b, f (a ^^^ b) = f a ^^^ f b

section XorAdditive

variable {l m n : Nat}

namespace XorAdditive

theorem zero {f : BitVec m → BitVec n} (hf : XorAdditive f) : f 0 = 0 := by
  have h := hf 0 0
  rwa [BitVec.xor_self, BitVec.xor_self] at h

theorem comp {g : BitVec m → BitVec n} {f : BitVec l → BitVec m} (hg : XorAdditive g) (hf : XorAdditive f) :
    XorAdditive fun x => g (f x) := fun a b => by
  simp only [hf a b, hg (f a) (f b)]

theorem append {f : BitVec l → BitVec m} {g : BitVec l → BitVec n} (hf : XorAdditive f) (hg : XorAdditive g) :
    XorAdditive fun x => f x ++ g x := fun a b => by
  simp only [hf a b, hg a b, BitVec.xor_append]

theorem id : XorAdditive fun x : BitVec n => x := fun _ _ => rfl

theorem const_zero : XorAdditive fun _ : BitVec m => (0 : BitVec n) := fun _ _ => BitVec.xor_self.symm

theorem setWidth : XorAdditive fun x : BitVec m => x.setWidth n := fun _ _ => BitVec.setWidth_xor

end XorAdditive

/-- The low i + 1 bits of x are its low i bits and its bit i. -/
theorem lowBits_succ (x : BitVec n) (i : Nat) :
    (x.setWidth (i + 1)).setWidth n =
      (x.setWidth i).setWidth n ^^^ if x.getLsbD i then (1 : BitVec n) <<< i else 0 := by
  ext k hk
  rcases lt_trichotomy k i with hki | rfl | hki
  · cases x.getLsbD i <;> simp [hki, hki.le]
  · cases hx : x.getLsbD k <;> simp [hx]
  · cases x.getLsbD i <;> simp [hki.not_ge, hki.not_gt, Nat.sub_ne_zero_of_lt hki]

/-- Additive functions are equal when they agree on the words of a single 1. -/
theorem XorAdditive.ext {f g : BitVec m → BitVec n} (hf : XorAdditive f) (hg : XorAdditive g)
    (h : ∀ i, i < m → f ((1 : BitVec m) <<< i) = g ((1 : BitVec m) <<< i)) (x : BitVec m) : f x = g x := by
  have low : ∀ i, i ≤ m → f ((x.setWidth i).setWidth m) = g ((x.setWidth i).setWidth m) := by
    intro i
    induction i with
    | zero =>
      intro _
      have h0 : (x.setWidth 0).setWidth m = 0 := by
        rw [BitVec.eq_nil (x.setWidth 0)]
        rfl
      rw [h0, hf.zero, hg.zero]
    | succ i ih =>
      intro hi
      rw [lowBits_succ, hf, hg, ih (by omega)]
      cases x.getLsbD i with
      | true => simp only [if_true, h i hi]
      | false => simp only [Bool.false_eq_true, if_false, hf.zero, hg.zero]
  simpa using low m le_rfl

end XorAdditive

/-- A conditional xor of a fixed word is additive in the condition and the word together. -/
theorem ite_xor_xor {n : Nat} (x y : Bool) (s t r : BitVec n) :
    ((if x then s ^^^ r else s) ^^^ if y then t ^^^ r else t) = if x ^^ y then (s ^^^ t) ^^^ r else s ^^^ t := by
  have hr : (s ^^^ r) ^^^ (t ^^^ r) = s ^^^ t := by
    rw [BitVec.xor_comm t r, BitVec.xor_assoc, ← BitVec.xor_assoc r r t, BitVec.xor_self, BitVec.zero_xor]
  cases x <;> cases y <;> simp [hr] <;> ac_rfl

/-! ## SYNDROME and the check bits (R81, R82 and 30_encoding R63) -/

theorem syndrome_xor : XorAdditive syndrome := fun a b => by
  unfold syndrome
  rw [← List.foldl_hom₂ (List.range 26) (· ^^^ ·) _ _
    (fun s i => if (a ^^^ b).getLsbD (25 - i) then s ^^^ romHRow i else s), BitVec.xor_self]
  · rfl
  · intro s t i
    rw [ite_xor_xor, BitVec.getLsbD_xor]

/-- One step of the long division: the bit 25 - k is cleared by a multiple of g. -/
def divideStep (r : Codeword) (k : Nat) : Codeword :=
  if r.getLsbD (25 - k) then r ^^^ ((0x5B9 : Codeword) <<< (15 - k)) else r

theorem checkBits_eq (m : Word) :
    checkBits m = ((List.range 16).foldl divideStep (m ++ (0 : BitVec 10))).setWidth 10 := rfl

theorem divideStep_xor (r t : Codeword) (k : Nat) :
    divideStep r k ^^^ divideStep t k = divideStep (r ^^^ t) k := by
  unfold divideStep
  rw [ite_xor_xor, BitVec.getLsbD_xor]

theorem checkBits_xor : XorAdditive checkBits := fun a b => by
  rw [checkBits_eq, checkBits_eq, checkBits_eq, ← BitVec.setWidth_xor,
    ← List.foldl_hom₂ _ (· ^^^ ·) _ _ _ _ _ divideStep_xor, BitVec.xor_append, BitVec.xor_self]
  rfl

/-- A single 1 at w[25 - i] has the syndrome row i. -/
theorem syndrome_one_shiftLeft : ∀ i, i < 26 → syndrome ((1 : Codeword) <<< (25 - i)) = romHRow i := by
  decide

/-- An information word with its check bits is a multiple of g. -/
theorem syndrome_append_checkBits (m : Word) : syndrome (m ++ checkBits m) = 0 :=
  XorAdditive.ext (f := fun m : Word => syndrome (m ++ checkBits m)) (g := fun _ => 0)
    (syndrome_xor.comp (.append .id checkBits_xor)) .const_zero (by decide +kernel) m

/-- The syndrome of a 10-bit remainder is it times x^(-16); the check bits of x^6 times that are the remainder again. -/
theorem checkBits_syndrome (c : Syndrome) : checkBits (syndrome (c.setWidth 26) ++ (0 : BitVec 6)) = c :=
  XorAdditive.ext (f := fun c : Syndrome => checkBits (syndrome (c.setWidth 26) ++ (0 : BitVec 6))) (g := fun c => c)
    (checkBits_xor.comp (.append (syndrome_xor.comp .setWidth) .const_zero)) .id (by decide +kernel) c

/-- No remainder but 0 has the syndrome 0. -/
theorem eq_zero_of_syndrome_eq_zero {c : Syndrome} (h : syndrome (c.setWidth 26) = 0) : c = 0 := by
  have hz : (0 : Syndrome) ++ (0 : BitVec 6) = (0 : Word) := rfl
  rw [← checkBits_syndrome c, h, hz, checkBits_xor.zero]

theorem append_xor (m : Word) (c d : Syndrome) : m ++ (c ^^^ d) = (m ++ c) ^^^ d.setWidth 26 := by
  have h : d.setWidth 26 = (0 : Word) ++ d := by
    rw [BitVec.setWidth_eq_append (by omega), BitVec.cast_eq]
    rfl
  rw [h, BitVec.xor_append]
  exact congrArg (· ++ (c ^^^ d)) BitVec.xor_zero.symm

theorem syndrome_append (m : Word) (d : Syndrome) :
    syndrome (m ++ (checkBits m ^^^ d)) = syndrome (d.setWidth 26) := by
  rw [append_xor, syndrome_xor, syndrome_append_checkBits]
  exact BitVec.zero_xor

/-- The kernel of SYNDROME (R82). -/
theorem syndrome_eq_zero_iff (w : Codeword) : syndrome w = 0 ↔ ∃ m : Word, w = m ++ checkBits m := by
  constructor
  · intro h
    obtain ⟨m, c, rfl⟩ : ∃ (m : Word) (c : Syndrome), w = m ++ c :=
      ⟨infoBits w, w.extractLsb' 0 10, (BitVec.extractLsb'_append_extractLsb' (w := 16) (len := 10)).symm⟩
    have hc : c = checkBits m ^^^ (checkBits m ^^^ c) := by
      rw [← BitVec.xor_assoc, BitVec.xor_self, BitVec.zero_xor]
    rw [hc, syndrome_append] at h
    exact ⟨m, congrArg (m ++ ·) (BitVec.xor_eq_zero_iff.mp (eq_zero_of_syndrome_eq_zero h)).symm⟩
  · rintro ⟨m, rfl⟩
    exact syndrome_append_checkBits m

/-- A valid codeword has the syndrome of its offset word (R85). -/
theorem syndrome_codeword (m : Word) (o : Offset) : syndrome (codeword m o) = syndrome (o.word.setWidth 26) :=
  syndrome_append m o.word

theorem syndrome_flip (w : Codeword) (j : Fin 26) :
    syndrome (w ^^^ ((1 : Codeword) <<< j.val)) = syndrome w ^^^ romHRow (25 - j.val) := by
  rw [syndrome_xor, ← syndrome_one_shiftLeft _ (by omega), show 25 - (25 - j.val) = j.val by omega]

/-! ## ROM_H (R77, R78 and R86) -/

theorem romHRow_recurrence : ∀ i, i < 25 → (romHRow (i + 1)).setWidth 11 =
    if (romHRow i).getLsbD 0 then ((romHRow i).setWidth 11 ^^^ 0x5B9) >>> 1 else (romHRow i).setWidth 11 >>> 1 := by
  decide

theorem romHRow_eq_getElem {i : Nat} (hi : i < romH.length) : romHRow i = romH[i] :=
  (List.getElem_eq_getD 0).symm

theorem romHRow_injective {i j : Nat} (hi : i < 26) (hj : j < 26) (h : romHRow i = romHRow j) : i = j := by
  have hn : romH.Nodup := by decide
  rw [romHRow_eq_getElem hi, romHRow_eq_getElem hj] at h
  exact hn.getElem_inj_iff.mp h

theorem romHRow_ne_zero : ∀ i, i < 26 → romHRow i ≠ 0 := by decide

/-! ## MATCH and POS (R83 and R84) -/

theorem matchAt_iff (s : Syndrome) (p : Fin 4) :
    matchAt s p = true ↔ s = romSynEntry (2 * p.val) ∨ s = romSynEntry (2 * p.val + 1) := by
  simp only [matchAt, Bool.or_eq_true, beq_iff_eq]

/-- Two positions share no entry of ROM_SYN. -/
theorem romSynEntry_disjoint : ∀ p q : Fin 4, ∀ k l : Fin 2,
    romSynEntry (2 * p.val + k.val) = romSynEntry (2 * q.val + l.val) → p = q := by decide

theorem matchAt_unique {s : Syndrome} {p q : Fin 4} (hp : matchAt s p = true) (hq : matchAt s q = true) : p = q := by
  rcases (matchAt_iff s p).mp hp with rfl | rfl <;> rcases (matchAt_iff _ q).mp hq with h | h
  · exact romSynEntry_disjoint p q 0 0 h
  · exact romSynEntry_disjoint p q 0 1 h
  · exact romSynEntry_disjoint p q 1 0 h
  · exact romSynEntry_disjoint p q 1 1 h

theorem pos_eq_some_iff (s : Syndrome) (p : Fin 4) : pos s = some p ↔ matchAt s p = true := by
  constructor
  · exact List.find?_some
  · intro hp
    have hfound : (pos s).isSome := List.find?_isSome.mpr ⟨p, by fin_cases p <;> simp, hp⟩
    obtain ⟨q, hq⟩ := Option.isSome_iff_exists.mp hfound
    rw [hq, matchAt_unique (List.find?_some hq) hp]

theorem popcount_eq_card (f : Fin 4 → Bool) :
    popcount #v[f 0, f 1, f 2, f 3] = (Finset.univ.filter fun p => f p = true).card := by
  rw [Finset.card_filter, Fin.sum_univ_four]
  simp [popcount, Bool.toNat, Bool.cond_eq_ite]

/-- Flags of which no two are set have at most one set. -/
theorem popcount_le_one {f : Fin 4 → Bool} (h : ∀ p q, f p = true → f q = true → p = q) :
    popcount #v[f 0, f 1, f 2, f 3] ≤ 1 := by
  rw [popcount_eq_card, Finset.card_le_one]
  intro p hp q hq
  exact h p q (Finset.mem_filter.mp hp).2 (Finset.mem_filter.mp hq).2

end Sys2Proof.Machine

open Sys2Proof Sys2Proof.Machine

/-- Settles O26: SYNDROME is additive, and a word is its information bits with the check bits xor a remainder, whose syndrome
is 0 only for the remainder 0. -/
theorem syndromeIsLinear : Obligations.SyndromeIsLinear := by
  unfold Obligations.SyndromeIsLinear
  exact ⟨⟨rfl, romHRow_recurrence⟩, syndrome_one_shiftLeft, syndrome_xor, syndrome_eq_zero_iff⟩

/-- Settles O27: the part without an offset has the syndrome 0, which leaves the five offset words. -/
theorem validCodewordMatchesItsPosition : Obligations.ValidCodewordMatchesItsPosition := by
  unfold Obligations.ValidCodewordMatchesItsPosition
  intro m o
  rw [syndrome_codeword]
  cases o <;> decide

/-- Settles O28: the flipped bit adds its row to the offset's syndrome, which leaves five offsets and 26 bits. -/
theorem singleBitErrorIsRejectedAtItsPosition : Obligations.SingleBitErrorIsRejectedAtItsPosition := by
  unfold Obligations.SingleBitErrorIsRejectedAtItsPosition
  refine ⟨fun i j => romHRow_injective, romHRow_ne_zero, fun m o j => ?_⟩
  simp only [syndrome_flip, syndrome_codeword]
  refine ⟨trivial, ?_, ?_⟩
  · exact fun h => romHRow_ne_zero (25 - j.val) (by omega) ((BitVec.xor_right_inj _).mp (h.trans BitVec.xor_zero.symm))
  · revert j
    cases o <;> decide

/-- Settles O29: no value of ROM_SYN stands at two positions. -/
theorem atMostOnePositionMatches : Obligations.AtMostOnePositionMatches := by
  unfold Obligations.AtMostOnePositionMatches
  refine ⟨fun v => ?_, by decide, by decide, fun s => ⟨?_, fun p => pos_eq_some_iff s p⟩⟩
  · simp [romSyn]
  · exact popcount_le_one (f := matchAt s) fun p q => matchAt_unique

end

section
/-! BIT and EOS (41_synchronizer): each rule of the bit synchronizer as the exact next state of one command. -/

namespace Sys2Proof.Machine

open Sys2Proof

/-! ## Commands once accepted -/

variable {b : Bool} {s : State}

theorem execBit_unsynced (hh : s.halted = false) (hs : s.sync = .unsynced) :
    exec (.bit b) s = .next ((acquire (s.shiftIn b)).setReply .done) := by
  rw [execBit_runs hh, bitStep_unsynced hs]

theorem execBit_synced (hh : s.halted = false) (hs : s.sync = .synced) :
    exec (.bit b) s = .next ((frame (s.shiftIn b)).setReply .done) := by
  rw [execBit_runs hh, bitStep_synced hs]

theorem execEos_runs (hh : s.halted = false) : exec .eos s = .next ((endOfStream s).setReply .done) :=
  unlessHalted_runs hh

theorem execEos_stuck (hh : s.halted = true) : exec .eos s = .fault .stuckHalted := unlessHalted_stuck hh

/-- EOS loses the tracked station, if there is one, before the end of the stream (41_synchronizer R93). -/
theorem endOfStream_eq (s : State) : endOfStream s =
    { s with
      events := s.events ++ (if s.st.pi = 0 then [] else [⟨s.bt, .lost s.st.pi⟩]) ++ [⟨s.bt, .eos⟩]
      halted := true } := by
  unfold endOfStream
  by_cases hpi : s.st.pi = 0
  · simp only [hpi, ne_eq, not_true_eq_false, if_false, if_true, List.append_nil]
    rfl
  · simp only [hpi, ne_eq, not_false_eq_true, if_false, if_true]
    rfl

/-! ## Acquisition (R88 and R89) -/

/-- The key of R88 is the only place of HIST with its remainder. -/
theorem eq_bucketKey {bt : BitTime} {p : Fin 4} {key : Fin 104}
    (h : (key.val : Int) = ((bt.toNat : Int) - 26 * p.val) % 104) : key = bucketKey bt p :=
  Fin.ext (by have hk := bucketKey_val bt p; omega)

theorem recordMatch_within {p : Fin 4} (h : (purgeAppend s.bt s.hist[bucketKey s.bt p]).length ≤ 2) :
    recordMatch p s = s.setHist (s.hist.set (bucketKey s.bt p) (purgeAppend s.bt s.hist[bucketKey s.bt p])) := by
  rcases recordMatch_cases p s with ⟨-, e⟩ | ⟨hlen, -⟩
  · exact e
  · omega

theorem recordMatch_beyond {p : Fin 4} (h : 2 < (purgeAppend s.bt s.hist[bucketKey s.bt p]).length) :
    recordMatch p s = declare p s := by
  rcases recordMatch_cases p s with ⟨hlen, -⟩ | ⟨-, e⟩
  · omega
  · exact e

/-- DECLARE seeds the group with block p, but drops a block D (R89). -/
theorem declare_eq (p : Fin 4) (s : State) : declare p s =
    { s with
      sync := .synced, cur := p + 1, bcnt := 0, badg := 0
      gval := if p = 3 then #v[0, 0, 0, 0] else (#v[0, 0, 0, 0]).set p (s.sr.extractLsb' 10 16)
      gflg := if p = 3 then #v[false, false, false, false] else (#v[false, false, false, false]).set p true
      hist := Vector.replicate 104 [], synclog := s.synclog ++ [.acquired s.bt p] } := by
  unfold declare
  by_cases hp : p = 3
  · subst hp
    rfl
  · have hlt : p.val < 3 := by omega
    simp only [hp, hlt, if_true, if_false]
    rfl

/-! ## Framing (R90 to R92) -/

/-- The state that the 26th bit of block D frames, before COMPLETE. -/
def lastFramed (b : Bool) (s : State) : State :=
  { s with
    sr := srAfter b s, bt := s.bt + 1, bcnt := 0, gval := s.gval.set 3 ((srAfter b s).extractLsb' 10 16)
    gflg := s.gflg.set 3 (matchAt (syndrome (srAfter b s)) 3) }

theorem frameBlock_last (b : Bool) (hc : s.cur = 3) : frameBlock (s.shiftIn b) = lastFramed b s := by
  simp only [frameBlock, State.shiftIn_cur, hc]
  rfl

theorem execBit_last (hh : s.halted = false) (hs : s.sync = .synced) (hb : s.bcnt = 25) (hc : s.cur = 3) :
    exec (.bit b) s = .next (((complete (lastFramed b s)).setCur 0).setReply .done) := by
  rw [execBit_synced hh hs, frame_group (s := s.shiftIn b) hb.ge hc, frameBlock_last b hc]

/-- The state after GDEC has processed the completed group, before BADG counts it (R91). -/
def dispatched (s : State) : State := process (completedGroup s) (s.emitGroup (completedGroup s))

/-- GROUP_IN processes the group in the same way (R94). -/
theorem execGroupIn_completedGroup (hh : s.halted = false) :
    exec (.groupIn s.gflg s.gval s.bt) (s.emitGroup (completedGroup s)) = .next ((dispatched s).setReply .done) :=
  unlessHalted_runs hh

/-- GDEC leaves BADG, BT and SYNCLOG to COMPLETE. -/
theorem dispatched_bsync (s : State) :
    (dispatched s).badg = s.badg ∧ (dispatched s).bt = s.bt ∧ (dispatched s).synclog = s.synclog := by
  obtain ⟨-, -, -, -, -, hbt, -, -, hbadg, -, hlog⟩ :=
    (GdecStep.process (completedGroup s) (s.emitGroup (completedGroup s))).bsync
  exact ⟨hbadg, hbt, hlog⟩

theorem badgAfter_dispatched (s : State) :
    badgAfter (completedGroup s) (dispatched s).badg = if popcount s.gflg = 0 then s.badg + 1 else 0 := by
  obtain ⟨hbadg, -, -⟩ := dispatched_bsync s
  rw [hbadg]
  rfl

/-- COMPLETE of a group that keeps BADG below the limit (R91). -/
theorem complete_keeps_sync (h : popcount s.gflg ≠ 0 ∨ s.badg + 1 < 10) :
    complete s = clearFlags ((dispatched s).setBadg (if popcount s.gflg = 0 then s.badg + 1 else 0)) := by
  have hlt : badgAfter (completedGroup s) (dispatched s).badg < 10 := by
    rw [badgAfter_dispatched]
    split <;> omega
  rw [← badgAfter_dispatched]
  exact complete_kept hlt

/-- LOSE empties HIST, logs the loss and shuts GDEC's gate, whatever BADG was (R92 and 42_group_dispatch R105). -/
theorem lose_setBadg (n : Nat) (s : State) : lose (s.setBadg n) =
    { s with
      sync := .unsynced, badg := 0, bcnt := 0, hist := Vector.replicate 104 []
      synclog := s.synclog ++ [.lostSync s.bt], suppress := true, pimis := 0 } := rfl

/-- COMPLETE of the tenth all-invalid group in a row (R91 and R92). -/
theorem complete_loses_sync (hv : popcount s.gflg = 0) (hb : s.badg = 9) :
    complete s =
      clearFlags { dispatched s with
        sync := .unsynced, badg := 0, bcnt := 0, hist := Vector.replicate 104 []
        synclog := s.synclog ++ [.lostSync s.bt], suppress := true, pimis := 0 } := by
  obtain ⟨-, hbt, hlog⟩ := dispatched_bsync s
  have hge : 10 ≤ badgAfter (completedGroup s) (dispatched s).badg := by
    rw [badgAfter_dispatched, if_pos hv]
    omega
  have hrecord : s.synclog ++ [.lostSync s.bt] = (dispatched s).synclog ++ [.lostSync (dispatched s).bt] := by
    rw [hlog, hbt]
  have hlost : complete s =
      clearFlags (lose ((dispatched s).setBadg (badgAfter (completedGroup s) (dispatched s).badg))) := complete_lost hge
  rw [hlost, hrecord, lose_setBadg]

end Sys2Proof.Machine

open Sys2Proof Sys2Proof.Machine

/-- Settles O20: the match's bucket stays within the threshold. -/
theorem bitRecordsItsMatch : Obligations.BitRecordsItsMatch := by
  unfold Obligations.BitRecordsItsMatch
  intro s b p key bucket hh hs hguard hpos hkey hbucket hlen
  obtain rfl := eq_bucketKey hkey
  subst hbucket
  rw [execBit_unsynced hh hs, acquire_match (s := s.shiftIn b) hguard hpos, recordMatch_within (s := s.shiftIn b) hlen]
  rfl

/-- Settles O21: the match's bucket passes the threshold, which runs DECLARE. -/
theorem bitDeclaresSynchronisation : Obligations.BitDeclaresSynchronisation := by
  unfold Obligations.BitDeclaresSynchronisation
  intro s b p key bucket hh hs hguard hpos hkey hbucket hlen
  obtain rfl := eq_bucketKey hkey
  subst hbucket
  rw [execBit_unsynced hh hs, acquire_match (s := s.shiftIn b) hguard hpos, recordMatch_beyond (s := s.shiftIn b) hlen,
    declare_eq]
  rfl

/-- Settles O22: FRAME inside a block, and at the end of a block other than D. -/
theorem bitFramesABlock : Obligations.BitFramesABlock := by
  unfold Obligations.BitFramesABlock
  intro s b hh hs
  refine ⟨fun hb => ?_, fun hb hc => ?_⟩
  · rw [execBit_synced hh hs, frame_inside (s := s.shiftIn b) hb]
    rfl
  · rw [execBit_synced hh hs, frame_block (s := s.shiftIn b) hb.ge hc]
    rfl

/-- Settles O23: FRAME at the end of block D, where PROCESS leaves BADG to COMPLETE. -/
theorem bitCompletesAGroup : Obligations.BitCompletesAGroup := by
  unfold Obligations.BitCompletesAGroup
  intro s b u hh hs hb hc flg val hu hkeep
  obtain rfl : (dispatched (lastFramed b s)).setReply .done = u :=
    Host.Outcome.next.inj ((execGroupIn_completedGroup (s := lastFramed b s) hh).symm.trans hu)
  rw [execBit_last hh hs hb hc, complete_keeps_sync (s := lastFramed b s) hkeep]
  generalize dispatched (lastFramed b s) = v
  rfl

/-- Settles O24: FRAME at the end of block D, where PROCESS leaves BADG, BT and SYNCLOG to LOSE. -/
theorem tenthInvalidGroupLosesSynchronisation : Obligations.TenthInvalidGroupLosesSynchronisation := by
  unfold Obligations.TenthInvalidGroupLosesSynchronisation
  intro s b u hh hs hb hc flg val hu hv hbadg
  obtain rfl : (dispatched (lastFramed b s)).setReply .done = u :=
    Host.Outcome.next.inj ((execGroupIn_completedGroup (s := lastFramed b s) hh).symm.trans hu)
  rw [execBit_last hh hs hb hc, complete_loses_sync (s := lastFramed b s) hv hbadg]
  generalize dispatched (lastFramed b s) = v
  rfl

/-- Settles O13: the `if` of LOST is the case split on the tracked PI. -/
theorem eosResult : Obligations.EosResult := by
  unfold Obligations.EosResult
  refine fun s => ⟨execEos_stuck, fun hh => ?_⟩
  rw [execEos_runs hh, endOfStream_eq]
  rfl

/-- Settles O19: ACQUIRE returns at its guard or at POS. -/
theorem bitWithoutMatchOnlyShifts : Obligations.BitWithoutMatchOnlyShifts := by
  unfold Obligations.BitWithoutMatchOnlyShifts
  intro s b hh hs hidle
  rw [execBit_unsynced hh hs, acquire_idle (s := s.shiftIn b) hidle]
  rfl

end

section
/-! Acquisition of a clean stream (41_synchronizer R96): the bits of three codewords in order leave three entries in one
bucket of HIST, which no other match removes and no age purges, so synchronisation is declared by the third at the latest. -/

namespace Sys2Proof.Machine

open Sys2Proof

/-! ## Feeding bits -/

section Feed

variable {b : Bool} {bits : List Bool} {s : State}

/-- The state after an accepted BIT. -/
def afterBit (b : Bool) (s : State) : State := (bitStep b s).setReply .done

theorem afterBit_unsynced (hs : s.sync = .unsynced) : afterBit b s = (acquire (s.shiftIn b)).setReply .done := by
  rw [afterBit, bitStep_unsynced hs]

theorem feedBits_cons (hh : s.halted = false) (b : Bool) (bits : List Bool) :
    feedBits (b :: bits) s = feedBits bits (afterBit b s) := by
  rw [feedBits, execBit_runs hh]
  rfl

theorem afterBit_bt (b : Bool) (s : State) : (afterBit b s).bt = s.bt + 1 := by
  obtain ⟨hbt, -⟩ := bitStep_frame b s
  exact hbt

/-- Some of the bits, from the first on, lead to SYNCED. -/
def Acquires (bits : List Bool) (s : State) : Prop :=
  ∃ n, n ≤ bits.length ∧ (feedBits (bits.take n) s).sync = .synced

theorem Acquires.of_synced (h : s.sync = .synced) (bits : List Bool) : Acquires bits s := ⟨0, Nat.zero_le _, h⟩

theorem Acquires.cons (hh : s.halted = false) (h : Acquires bits (afterBit b s)) : Acquires (b :: bits) s := by
  obtain ⟨n, hn, hsync⟩ := h
  refine ⟨n + 1, Nat.succ_le_succ hn, ?_⟩
  rwa [List.take_succ_cons, feedBits_cons hh]

end Feed

/-! ## The shift register (R87) -/

/-- SR with one bit shifted in. -/
def shiftBit (sr : Codeword) (b : Bool) : Codeword := sr.extractLsb' 0 25 ++ BitVec.ofBool b

theorem srAfter_eq (b : Bool) (s : State) : srAfter b s = shiftBit s.sr b := rfl

theorem shiftBit_toNat (sr : Codeword) (b : Bool) : (shiftBit sr b).toNat = (sr.toNat * 2 + b.toNat) % 2 ^ 26 := by
  have hb := b.toNat_lt
  simp only [shiftBit, BitVec.toNat_append, BitVec.extractLsb'_toNat, BitVec.toNat_ofBool, Nat.shiftRight_zero]
  rw [← Nat.shiftLeft_add_eq_or_of_lt (by omega), Nat.shiftLeft_eq]
  omega

theorem foldl_shiftBit_toNat (bits : List Bool) (sr : Codeword) :
    (bits.foldl shiftBit sr).toNat = (sr.toNat * 2 ^ bits.length + bitsVal bits) % 2 ^ 26 := by
  induction bits generalizing sr with
  | nil => simp [bitsVal, Nat.mod_eq_of_lt sr.isLt]
  | cons b bits ih =>
    rw [List.foldl_cons, ih, shiftBit_toNat, bitsVal, List.length_cons, ← Nat.mod_add_mod, Nat.mod_mul_mod,
      Nat.mod_add_mod]
    congr 1
    ring

/-- After 26 bits SR holds them and nothing older. -/
theorem foldl_shiftBit_codeword (sr w : Codeword) : (bitsMsb 26 w.toNat).foldl shiftBit sr = w := by
  apply BitVec.eq_of_toNat_eq
  rw [foldl_shiftBit_toNat, bitsMsb_length, bitsVal_bitsMsb, Nat.mul_add_mod_self_right, Nat.mod_mod,
    Nat.mod_eq_of_lt w.isLt]

/-- The last of the 26 bits completes the codeword in SR, whatever SR held before. -/
theorem codeword_lastBit (w : Codeword) : ∃ xs b, bitsMsb 26 w.toNat = xs ++ [b] ∧ xs.length = 25 ∧
    ∀ sr, shiftBit (xs.foldl shiftBit sr) b = w := by
  have hbits := bitsMsb_length 26 w.toNat
  obtain ⟨xs, b, e⟩ : ∃ xs b, bitsMsb 26 w.toNat = xs ++ [b] :=
    (List.eq_nil_or_concat' _).resolve_left (List.ne_nil_of_length_eq_add_one hbits)
  refine ⟨xs, b, e, ?_, fun sr => ?_⟩
  · rw [e, List.length_append, List.length_singleton] at hbits
    omega
  · have hsr := foldl_shiftBit_codeword sr w
    rwa [e, List.foldl_append] at hsr

/-! ## What one bit does to HIST while synchronisation is not declared (R88) -/

section Acquire

variable {s : State}

theorem acquire_cases (s : State) : acquire s = s ∨ ∃ p, acquire s = recordMatch p s := by
  rcases Nat.lt_or_ge s.bt.toNat 26 with hg | hg
  · exact .inl (acquire_idle (.inl hg))
  · cases hpos : pos (syndrome s.sr) with
    | none => exact .inl (acquire_idle (.inr hpos))
    | some p => exact .inr ⟨p, acquire_match hg hpos⟩

theorem acquire_sr (s : State) : (acquire s).sr = s.sr := by
  rcases acquire_cases s with e | ⟨p, e⟩
  · rw [e]
  · rcases recordMatch_cases p s with ⟨-, e'⟩ | ⟨-, e'⟩ <;> rw [e, e'] <;> rfl

/-- ACQUIRE declares synchronisation, or each bucket is left or gets the current bit-time. -/
theorem acquire_hist (s : State) :
    (acquire s).sync = .synced ∨ ∃ hist, acquire s = s.setHist hist ∧
      ∀ key : Fin 104, hist[key] = s.hist[key] ∨ hist[key] = purgeAppend s.bt s.hist[key] := by
  rcases acquire_cases s with e | ⟨p, e⟩
  · exact .inr ⟨s.hist, e, fun _ => .inl rfl⟩
  · rcases recordMatch_cases p s with ⟨-, e'⟩ | ⟨-, e'⟩ <;> rw [e, e']
    · refine .inr ⟨_, rfl, fun key => ?_⟩
      by_cases hk : bucketKey s.bt p = key
      · subst hk
        exact .inr (Vector.getElem_set_self _)
      · exact .inl (Vector.getElem_set_ne _ _ (Fin.val_ne_of_ne hk))
    · exact .inl rfl

/-- A match declares synchronisation, or its bucket holds it and at most one other. -/
theorem acquire_match_hist {p : Fin 4} (hg : 26 ≤ s.bt.toNat) (hpos : pos (syndrome s.sr) = some p) :
    (acquire s).sync = .synced ∨ ∃ hist, acquire s = s.setHist hist ∧
      hist[bucketKey s.bt p] = purgeAppend s.bt s.hist[bucketKey s.bt p] ∧ hist[bucketKey s.bt p].length ≤ 2 := by
  rw [acquire_match hg hpos]
  rcases recordMatch_cases p s with ⟨hlen, e⟩ | ⟨-, e⟩ <;> rw [e]
  · have hset : (s.hist.set (bucketKey s.bt p) (purgeAppend s.bt s.hist[bucketKey s.bt p]))[bucketKey s.bt p] =
        purgeAppend s.bt s.hist[bucketKey s.bt p] := Vector.getElem_set_self _
    exact .inr ⟨_, rfl, hset, hset.symm ▸ hlen⟩
  · exact .inl rfl

theorem afterBit_sr {b : Bool} (hs : s.sync = .unsynced) : (afterBit b s).sr = srAfter b s := by
  rw [afterBit_unsynced hs, State.setReply_sr, acquire_sr]
  rfl

end Acquire

/-- Blocks in order have the same key (R88). -/
theorem bucketKey_next {bt : BitTime} (p : Fin 4) (h : bt.toNat + 26 < 2 ^ 64) :
    bucketKey (bt + 26) (p + 1) = bucketKey bt p := by
  have hbt : (bt + 26).toNat = bt.toNat + 26 := BitVec.toNat_add_of_lt h
  have hp : (p + 1).val = (p.val + 1) % 4 := Fin.val_add p 1
  apply Fin.ext
  simp only [bucketKey, hbt, hp]
  omega

/-! ## Entries that stay in a bucket -/

/-- Unsynchronised, with the entries `ts` in the bucket of `key`, which the next `n` bits do not purge. -/
structure Tracks (key : Fin 104) (ts : List BitTime) (n : Nat) (s : State) : Prop where
  running : s.halted = false
  unsynced : s.sync = .unsynced
  kept : ts.Sublist s.hist[key]
  few : ts.length ≤ 2
  room : n ≤ 520 ∧ s.bt.toNat + n < 2 ^ 64
  fresh : ∀ t ∈ ts, t.toNat ≤ s.bt.toNat ∧ s.bt.toNat + n ≤ t.toNat + 520

namespace Tracks

variable {key : Fin 104} {ts : List BitTime} {n : Nat} {s : State}

theorem bt_succ (h : Tracks key ts (n + 1) s) : (s.bt + 1).toNat = s.bt.toNat + 1 :=
  BitVec.toNat_add_of_lt (by have := h.room; change s.bt.toNat + 1 < 2 ^ 64; omega)

/-- The purge of the next bit keeps the entries. -/
theorem sublist_purgeAppend (h : Tracks key ts (n + 1) s) :
    (ts ++ [s.bt + 1]).Sublist (purgeAppend (s.bt + 1) s.hist[key]) := by
  have hage : ∀ t ∈ ts, decide ((s.bt + 1 - t).toNat ≤ Config.syncConfirmBits) = true := by
    intro t ht
    obtain ⟨hle, hage⟩ := h.fresh t ht
    have hbt := h.bt_succ
    rw [decide_eq_true_eq, BitVec.toNat_sub_of_le (BitVec.le_def.mpr (by omega)), hbt, Config.syncConfirmBits]
    omega
  rw [← List.filter_eq_self.mpr hage]
  exact (h.kept.filter _).append_right _

/-- The state after a bit that leaves the machine unsynchronised. -/
theorem next {ts' : List BitTime} {hist : Vector (List BitTime) 104} (h : Tracks key ts (n + 1) s) (b : Bool)
    (hkept : ts'.Sublist hist[key]) (hfew : ts'.length ≤ 2) (hts : ∀ t ∈ ts', t ∈ ts ∨ t = s.bt + 1) :
    Tracks key ts' n (((s.shiftIn b).setHist hist).setReply .done) := by
  have hbt : (s.bt + 1).toNat = s.bt.toNat + 1 := h.bt_succ
  obtain ⟨hn, hroom⟩ := h.room
  refine ⟨h.running, h.unsynced, hkept, hfew, ⟨by omega, ?_⟩, fun t ht => ?_⟩
  · change (s.bt + 1).toNat + n < 2 ^ 64
    omega
  · change t.toNat ≤ (s.bt + 1).toNat ∧ (s.bt + 1).toNat + n ≤ t.toNat + 520
    rcases hts t ht with hold | rfl
    · have := h.fresh t hold
      omega
    · omega

/-- No bit removes a tracked entry before synchronisation. -/
theorem bit (h : Tracks key ts (n + 1) s) (b : Bool) :
    (afterBit b s).sync = .synced ∨ Tracks key ts n (afterBit b s) := by
  rw [afterBit_unsynced h.unsynced]
  rcases acquire_hist (s.shiftIn b) with hsync | ⟨hist, e, hhist⟩
  · exact .inl hsync
  · rw [e]
    refine .inr (h.next b ?_ h.few fun t ht => .inl ht)
    rcases hhist key with hsame | happend
    · rw [hsame]
      exact h.kept
    · rw [happend]
      exact (List.sublist_append_left ts _).trans h.sublist_purgeAppend

/-- A match in the tracked bucket joins the entries. -/
theorem matchBit (h : Tracks key ts (n + 1) s) {b : Bool} {p : Fin 4} (hg : 26 ≤ (s.bt + 1).toNat)
    (hpos : pos (syndrome (srAfter b s)) = some p) (hkey : bucketKey (s.bt + 1) p = key) :
    (afterBit b s).sync = .synced ∨ Tracks key (ts ++ [s.bt + 1]) n (afterBit b s) := by
  subst hkey
  rw [afterBit_unsynced h.unsynced]
  rcases acquire_match_hist (s := s.shiftIn b) hg hpos with hsync | ⟨hist, e, happend, hlen⟩
  · exact .inl hsync
  · have hkept : (ts ++ [s.bt + 1]).Sublist hist[bucketKey (s.bt + 1) p] := happend ▸ h.sublist_purgeAppend
    rw [e]
    exact .inr (h.next b hkept (hkept.length_le.trans hlen) fun t ht => by simpa using ht)

/-! ## Entries over many bits -/

/-- To acquire from a tracking state, it is enough to acquire after some more bits. -/
theorem feed {xs ys : List Bool} (h : Tracks key ts (n + xs.length) s)
    (after : ∀ u, Tracks key ts n u → u.bt = s.bt + BitVec.ofNat 64 xs.length → u.sr = xs.foldl shiftBit s.sr →
      Acquires ys u) : Acquires (xs ++ ys) s := by
  induction xs generalizing s with
  | nil => exact after s h (BitVec.add_zero _).symm rfl
  | cons b xs ih =>
    refine .cons h.running ?_
    rcases bit (n := n + xs.length) h b with hsync | hnext
    · exact .of_synced hsync _
    · refine ih hnext fun u hu hbt hsr => after u hu ?_ ?_
      · rw [hbt, afterBit_bt, List.length_cons, Nat.add_comm xs.length, BitVec.ofNat_add, BitVec.add_assoc]
        rfl
      · rw [hsr, afterBit_sr h.unsynced, srAfter_eq, List.foldl_cons]

/-- To acquire from a tracking state, it is enough to acquire after a codeword that its bucket records. -/
theorem feedCodeword {m : Word} {o : Offset} {ys : List Bool} (h : Tracks key ts (n + 26) s)
    (hkey : bucketKey (s.bt + 26) o.position = key)
    (after : ∀ u, Tracks key (ts ++ [s.bt + 26]) n u → u.bt = s.bt + 26 → Acquires ys u) :
    Acquires (bitsMsb 26 (codeword m o).toNat ++ ys) s := by
  obtain ⟨xs, b, e, hxs, hsr⟩ := codeword_lastBit (codeword m o)
  rw [e, List.append_assoc]
  refine feed (n := n + 1) (by rwa [hxs]) fun u hu hbt husr => .cons hu.running ?_
  have hbt' : u.bt + 1 = s.bt + 26 := by
    rw [hbt, hxs, BitVec.add_assoc]
    rfl
  have hpos : pos (syndrome (srAfter b u)) = some o.position := by
    obtain ⟨-, -, hpos⟩ := validCodewordMatchesItsPosition m o
    rwa [srAfter_eq, husr, hsr]
  have hguard : 26 ≤ (u.bt + 1).toNat := by
    have hroom : s.bt.toNat + 26 < 2 ^ 64 := by have := h.room; omega
    rw [hbt', BitVec.toNat_add_of_lt hroom]
    exact Nat.le_add_left _ _
  rcases hu.matchBit hguard hpos (hbt' ▸ hkey) with hsync | hnext
  · exact .of_synced hsync _
  · exact after _ (hbt' ▸ hnext) ((afterBit_bt b u).trans hbt')

/-- No bucket of an unsynchronised machine records three matches (41_synchronizer R95). -/
theorem not_three {t₁ t₂ t₃ : BitTime} (h : Tracks key [t₁, t₂, t₃] n s) : False :=
  absurd h.few (by simp)

/-- Three codewords in order acquire from a state with room for their bits. -/
theorem feedThree {m₁ m₂ m₃ : Word} {o₁ o₂ o₃ : Offset}
    (h : Tracks (bucketKey (s.bt + 26) o₁.position) [] (26 + 26 + 26) s) (h₂ : o₂.position = o₁.position + 1)
    (h₃ : o₃.position = o₂.position + 1) :
    Acquires (bitsMsb 26 (codeword m₁ o₁).toNat ++
      (bitsMsb 26 (codeword m₂ o₂).toNat ++ bitsMsb 26 (codeword m₃ o₃).toNat)) s := by
  refine h.feedCodeword rfl fun u hu hbt => ?_
  have hroom := hu.room
  have hkey₂ : bucketKey (u.bt + 26) o₂.position = bucketKey (s.bt + 26) o₁.position := by
    rw [h₂, bucketKey_next _ (by omega), hbt]
  refine hu.feedCodeword hkey₂ fun v hv hbt' => ?_
  have hroom' := hv.room
  have hkey₃ : bucketKey (v.bt + 26) o₃.position = bucketKey (s.bt + 26) o₁.position := by
    rw [h₃, bucketKey_next _ (by omega), hbt', hkey₂]
  rw [← List.append_nil (bitsMsb 26 (codeword m₃ o₃).toNat)]
  exact feedCodeword (n := 0) hv hkey₃ fun w hw _ => hw.not_three.elim

end Tracks

end Sys2Proof.Machine

open Sys2Proof Sys2Proof.Machine

/-- Settles O25: the three codewords record in one bucket, which holds at most two entries while unsynchronised. -/
theorem cleanStreamAcquiresWithin103Bits : Obligations.CleanStreamAcquiresWithin103Bits := by
  unfold Obligations.CleanStreamAcquiresWithin103Bits
  intro s before m₁ m₂ m₃ o₁ o₂ o₃ hh hs hbt hlen h₂ h₃
  have hnext : o₃.position = o₂.position + 1 := by
    rw [h₂, h₃, add_assoc]
    rfl
  have htracks (key : Fin 104) : Tracks key [] (26 + 26 + 26 + before.length) s :=
    ⟨hh, hs, List.nil_sublist _, Nat.zero_le _, ⟨by omega, by omega⟩, fun _ ht => nomatch ht⟩
  have hacquires : Acquires (before ++ (bitsMsb 26 (codeword m₁ o₁).toNat ++
      (bitsMsb 26 (codeword m₂ o₂).toNat ++ bitsMsb 26 (codeword m₃ o₃).toNat))) s :=
    (htracks (bucketKey (s.bt + BitVec.ofNat 64 before.length + 26) o₁.position)).feed fun u hu hbtu _ =>
      Tracks.feedThree (hbtu ▸ hu) h₂ hnext
  obtain ⟨n, hn, hsync⟩ := hacquires
  refine ⟨n, by simpa using hn, ?_⟩
  simpa only [List.append_assoc] using hsync

end

section
/-! GROUP_IN (42_group_dispatch): PI_STEP written out on any group with a PI, what PROCESS does at a shut and at an open gate,
and GROUP_IN as PROCESS once accepted. -/

namespace Sys2Proof.Machine

open Sys2Proof

/-! ## The PI of a group and SUPPRESS (R99 and R101) -/

variable {g : Group} {s : State}

theorem groupPiv_eq_false (h : g.flags[0] = false ∨ g.values[0] = 0) : groupPiv g = false := by
  rcases h with h | h <;> simp [groupPiv, h]

theorem groupPiv_eq_true (hf : g.flags[0] = true) (hv : g.values[0] ≠ 0) : groupPiv g = true := by
  simpa [groupPiv, hf] using hv

theorem gateShut_of_suppress (h : s.suppress = true) : gateShut g s = true := by
  simp [gateShut, h]

/-! ## PI_STEP written out (R100) -/

/-- The mismatches that PI_STEP only counts: a station is tracked, the PI is another, and the count stays within
PI_TOLERANCE. -/
def PiTolerated (pi : Word) (s : State) : Prop :=
  s.st.pi ≠ 0 ∧ pi ≠ s.st.pi ∧ s.pimis + 1 ≤ s.params.piTolerance

theorem trackPi_eq (pi : Word) (bt : BitTime) (s : State) : trackPi pi bt s =
    { s with st := { s.st with pi := pi, lastSeen := bt }, pimis := 0, events := s.events ++ [⟨bt, .tuned pi⟩] } := rfl

/-- Outside the tolerated mismatches, PI_STEP tracks a first PI, refreshes the tracked one or changes the station. -/
theorem piStep_of_not_tolerated {pi : Word} {bt : BitTime} (hpi : pi ≠ 0) (h : ¬ PiTolerated pi s) : piStep pi bt s =
    if s.st.pi = 0 then
      { s with
        st := { s.st with pi := pi, lastSeen := bt }
        pimis := 0, suppress := false, events := s.events ++ [⟨bt, .tuned pi⟩] }
    else if pi = s.st.pi then { s with st := { s.st with lastSeen := bt }, pimis := 0, suppress := false }
    else
      { s with
        st := { Station.fresh with pi := pi, lastSeen := bt }
        pimis := 0, suppress := false, events := s.events ++ [⟨bt, .lost s.st.pi⟩, ⟨bt, .tuned pi⟩] } := by
  rcases piStep_cases (bt := bt) (s := s) hpi with ⟨hfirst, e⟩ | ⟨hst, heq, e⟩ | ⟨hst, hne, htol, -⟩ | ⟨hst, hne, -, e⟩
  · rw [e, if_pos hfirst]
    rfl
  · rw [e, if_neg hst, if_pos heq]
    rfl
  · exact absurd ⟨hst, hne, htol⟩ h
  · rw [e, if_neg hst, if_neg hne, List.append_cons, trackPi_eq]
    rfl

/-! ## The gate after PI_STEP (R101) -/

theorem piStage_tolerated (hp : groupPiv g = true) (h : PiTolerated g.values[0] s) :
    piStage g s = s.setPimis (s.pimis + 1) := by
  obtain ⟨hst, hne, htol⟩ := h
  rw [piStage_with_pi hp, piStep_tolerated hst hne htol]

/-- A tolerated mismatch shuts the gate for its own group. -/
theorem gateShut_of_tolerated (hp : groupPiv g = true) (h : PiTolerated g.values[0] s) :
    gateShut g (piStage g s) = true := by
  simp [piStage_tolerated hp h, gateShut, hp]

/-- Every other PI clears SUPPRESS and PIMIS, which opens the gate. -/
theorem gateShut_of_not_tolerated (hp : groupPiv g = true) (h : ¬ PiTolerated g.values[0] s) :
    gateShut g (piStage g s) = false := by
  obtain ⟨-, hpi⟩ := groupPiv_pi hp
  rw [piStage_with_pi hp]
  rcases piStep_cases (bt := g.bt) (s := s) hpi with ⟨-, e⟩ | ⟨-, -, e⟩ | ⟨hst, hne, htol, -⟩ | ⟨-, -, -, e⟩
  · simp [e, gateShut, trackPi]
  · simp [e, gateShut]
  · exact absurd ⟨hst, hne, htol⟩ h
  · simp [e, gateShut, trackPi]

/-! ## PROCESS at the gate (R99, R102 and R104) -/

theorem decode_group_valid (h : g.flags[1] = true) :
    decode (.group g) = .ok (groupRow (Slot.ofB1 g.values[1]) g.fields) := if_pos h

theorem decode_group_invalid (h : g.flags[1] = false) : decode (.group g) = .error .block1Invalid :=
  if_neg (Bool.eq_false_iff.mp h)

theorem process_shut (h : gateShut g (piStage g s) = true) : process g s = piStage g s := by
  rcases process_cases g s with ⟨-, e⟩ | ⟨hopen, -⟩ | ⟨hopen, -⟩
  · exact e
  · simp [h] at hopen
  · simp [h] at hopen

theorem process_unknown (h : gateShut g (piStage g s) = false) (hb : g.flags[1] = false) :
    process g s = countUnknown (piStage g s) := by
  rcases process_cases g s with ⟨hshut, -⟩ | ⟨-, -, e⟩ | ⟨-, hvalid, -⟩
  · simp [h] at hshut
  · exact e
  · simp [hb] at hvalid

/-- Past the gate, the row that the decoder answers takes the state after PI_STEP to the state after PROCESS. -/
theorem exec_decoded_row {i : Instr} (h : gateShut g (piStage g s) = false) (hd : decode (.group g) = .ok i) :
    exec i (piStage g s) = .next (process g s) := by
  rcases process_cases g s with ⟨hshut, -⟩ | ⟨-, hinvalid, -⟩ | ⟨-, hvalid, e⟩
  · simp [h] at hshut
  · simp [decode_group_invalid hinvalid] at hd
  · obtain rfl : groupRow (Slot.ofB1 g.values[1]) g.fields = i :=
      Except.ok.inj ((decode_group_valid hvalid).symm.trans hd)
    rw [e, runGroup_exec]

/-! ## GROUP_IN once accepted -/

theorem execGroupIn_runs {flags : Vector Bool 4} {values : Vector Word 4} {bt : BitTime} (hh : s.halted = false) :
    exec (.groupIn flags values bt) s = .next ((process (Group.of flags values bt) s).setReply .done) :=
  unlessHalted_runs hh

theorem execGroupIn_shut {flags : Vector Bool 4} {values : Vector Word 4} {bt : BitTime} (hh : s.halted = false)
    (h : gateShut (Group.of flags values bt) (piStage (Group.of flags values bt) s) = true) :
    exec (.groupIn flags values bt) s = .next ((piStage (Group.of flags values bt) s).setReply .done) := by
  rw [execGroupIn_runs hh, process_shut h]

end Sys2Proof.Machine

open Sys2Proof Sys2Proof.Machine

/-- Settles O18: past the gate the state after PROCESS is what the decoded row answers. -/
theorem openGateRunsTheGroupRow : Obligations.OpenGateRunsTheGroupRow := by
  unfold Obligations.OpenGateRunsTheGroupRow
  intro s flags values bt g hh
  refine ⟨fun hopen => ⟨process g s, execGroupIn_runs hh, fun i hd => exec_decoded_row hopen hd, process_unknown hopen⟩,
    execGroupIn_shut hh, fun hnone => ?_⟩
  exact piStage_without_pi (groupPiv_eq_false hnone)

/-- Settles O17: a tolerated mismatch shuts the gate, and any other PI opens it, where O18 says what the group does. -/
theorem piStepResult : Obligations.PiStepResult := by
  unfold Obligations.PiStepResult
  intro s flags values bt hh hf hv pi result tolerated u
  have hp : groupPiv (Group.of flags values bt) = true := groupPiv_eq_true hf hv
  obtain ⟨hrow, hshut, -⟩ := openGateRunsTheGroupRow s flags values bt hh
  have hu (ht : ¬ tolerated) : piStage (Group.of flags values bt) s = u :=
    (piStage_with_pi hp).trans (piStep_of_not_tolerated hv ht)
  refine ⟨fun ht => ?_, fun ht hb => ?_, fun ht hb => ?_⟩
  · have hresult := hshut (gateShut_of_tolerated hp ht)
    rwa [piStage_tolerated hp ht] at hresult
  · obtain ⟨t, hresult, -, hunknown⟩ := hrow (gateShut_of_not_tolerated hp ht)
    rwa [hunknown hb, hu ht] at hresult
  · obtain ⟨t, hresult, hexec, -⟩ := hrow (gateShut_of_not_tolerated hp ht)
    exact ⟨_, t, decode_group_valid hb, hu ht ▸ hexec _ (decode_group_valid hb), hresult⟩

/-- Settles O16: the group takes no PI_STEP, and SUPPRESS shuts the gate. -/
theorem suppressedGroupChangesNothing : Obligations.SuppressedGroupChangesNothing := by
  unfold Obligations.SuppressedGroupChangesNothing
  intro s flags values bt hh hs hnone
  obtain ⟨-, hshut, hstage⟩ := openGateRunsTheGroupRow s flags values bt hh
  have hsame : piStage (Group.of flags values bt) s = s := hstage hnone
  rw [hshut (gateShut_of_suppress (hsame.symm ▸ hs)), hsame]

end

section
/-! Group types, first part (43_group_types R110, R112, R124 and R125): the fields that every row writes, the tuning bits,
the slow labelling codes, and the rows that do nothing more. -/

namespace Sys2Proof.Machine

open Sys2Proof

variable {s : State} {g : GroupFields}

/-! ## The common fields (42_group_dispatch R102 and R103) -/

theorem commonFields_eq (slot : Slot) (g : GroupFields) (s : State) :
    commonFields slot g s = { s with st := counted (slotIndex slot) g s.st } := rfl

/-- A row that writes nothing but the common fields counts its group at the place of its slot (R125). -/
theorem exec_counts_only {i : Instr} {slot : Slot} {k : Fin 32} (hk : slotIndex slot = k)
    (hi : exec i s = .next (commonFields slot g s)) : exec i s = .next { s with st := counted k g s.st } := by
  rw [hi, commonFields_eq, hk]

/-! ## The tuning bits (R110 and R124) -/

/-- The DI bit of a segment is the one at the place that adds up to 3 with it. -/
theorem diIndex_eq {x : BitVec 5} {d : Fin 4} (h : d.val + (x.extractLsb' 0 2).toNat = 3) : diIndex (segmentOf x) = d :=
  Fin.ext (Nat.sub_eq_of_eq_add h.symm)

theorem tuningBits_eq {x : BitVec 5} {d : Fin 4} (h : d.val + (x.extractLsb' 0 2).toNat = 3) (st : Station) :
    st.tuningBits x = { st with
      ta := some (x.getLsbD 4), ms := some (x.getLsbD 3), di := st.di.set d (some (x.getLsbD 2)) } := by
  obtain rfl := diIndex_eq h
  rfl

/-- Types 0A and 0B: the tuning bits, and the PS segment of a valid block 3. -/
theorem type0_eq (g : GroupFields) (s : State) : type0 g s =
    { s with
      st := { s.st.tuningBits g.x with
        ps := if g.f3 then s.st.ps.write (g.x.extractLsb' 0 2) (g.b3.extractLsb' 8 8) (g.b3.extractLsb' 0 8)
          else s.st.ps } } := by
  cases h3 : g.f3 <;> simp only [type0, blk3, h3] <;> rfl

/-- Type 0A: a valid block 2 goes to AF_UPDATE. -/
theorem type0Af_eq (g : GroupFields) (s : State) : type0Af g s =
    { s with
      st := { s.st with
        af := if g.f2 then Config.afUpdate s.st.af (g.b2.extractLsb' 8 8) (g.b2.extractLsb' 0 8) s.tunedFreq
          else s.st.af } } := by
  cases h2 : g.f2 <;> simp only [type0Af, blk2, h2] <;> rfl

/-- Type 15B: the tuning bits of block 1, and over them those of a valid block 3. -/
theorem tuning15B_eq (g : GroupFields) (s : State) : tuning15B g s =
    { s with
      st := if g.f3 then (s.st.tuningBits g.x).tuningBits (g.b3.extractLsb' 0 5) else s.st.tuningBits g.x } := by
  cases h3 : g.f3 <;> simp only [tuning15B, blk3, h3] <;> rfl

/-! ## Slow labelling (R112) -/

theorem slowLabelling_eq {n : Fin 8} (hn : n.val = (g.b2.extractLsb' 12 3).toNat) (s : State) : slowLabelling g s =
    { s with
      st := { s.st with
        pagingCfg := some g.x
        pin := if g.f3 then some g.b3 else s.st.pin
        slc := if g.f2 then s.st.slc.set n (some (g.b2.extractLsb' 0 12)) else s.st.slc
        pagingOpc := if g.f2 ∧ n = 0 then some (g.b2.extractLsb' 8 4) else s.st.pagingOpc
        ecc := if g.f2 ∧ n = 0 then some (g.b2.extractLsb' 0 8) else s.st.ecc } } := by
  obtain rfl : (⟨(g.b2.extractLsb' 12 3).toNat, (g.b2.extractLsb' 12 3).isLt⟩ : Fin 8) = n := Fin.ext hn.symm
  cases h2 : g.f2
  · cases h3 : g.f3 <;> simp [slowLabelling, blk2, blk3, h2, h3, State.updSt]
  · by_cases h0 : (⟨(g.b2.extractLsb' 12 3).toNat, (g.b2.extractLsb' 12 3).isLt⟩ : Fin 8) = 0
    · cases h3 : g.f3 <;>
        simp only [slowLabelling, blk2, blk3, State.updSt, h2, h3, true_and, Bool.false_eq_true, if_true, if_false,
          if_pos h0]
    · cases h3 : g.f3 <;>
        simp only [slowLabelling, blk2, blk3, State.updSt, h2, h3, true_and, Bool.false_eq_true, if_true, if_false,
          if_neg h0]

theorem pagingActive_iff {st : Station} {x : BitVec 5} (h : st.pagingCfg = some x) :
    st.pagingActive = true ↔ x.extractLsb' 2 3 ≠ 0 := by
  simp [Station.pagingActive, h]

end Sys2Proof.Machine

open Sys2Proof Sys2Proof.Machine

/-- Settles O30: each of the fourteen rows is the common fields of its own slot. -/
theorem typesWithoutFieldAction : Obligations.TypesWithoutFieldAction := by
  unfold Obligations.TypesWithoutFieldAction
  intro g s
  exact ⟨exec_counts_only (slot := ⟨1, .B⟩) rfl rfl, exec_counts_only (slot := ⟨2, .B⟩) rfl rfl,
    exec_counts_only (slot := ⟨3, .B⟩) rfl rfl, exec_counts_only (slot := ⟨4, .B⟩) rfl rfl,
    exec_counts_only (slot := ⟨5, .B⟩) rfl rfl, exec_counts_only (slot := ⟨6, .B⟩) rfl rfl,
    exec_counts_only (slot := ⟨7, .B⟩) rfl rfl, exec_counts_only (slot := ⟨8, .B⟩) rfl rfl,
    exec_counts_only (slot := ⟨9, .B⟩) rfl rfl, exec_counts_only (slot := ⟨10, .B⟩) rfl rfl,
    exec_counts_only (slot := ⟨11, .B⟩) rfl rfl, exec_counts_only (slot := ⟨12, .B⟩) rfl rfl,
    exec_counts_only (slot := ⟨13, .B⟩) rfl rfl, exec_counts_only (slot := ⟨15, .A⟩) rfl rfl⟩

/-- Settles O31: 0B is the common fields and the rule of type 0, and 0A adds the AF action. -/
theorem type0Result : Obligations.Type0Result := by
  unfold Obligations.Type0Result
  intro g s d hd common
  have type0_common (slot : Slot) (k : Fin 32) (hk : slotIndex slot = k) :
      type0 g (commonFields slot g s) = { s with st := common k } := by
    rw [type0_eq, tuningBits_eq hd, commonFields_eq, hk]
    rfl
  have h0A : exec (.group0A g) s = .next (type0Af g (type0 g (commonFields ⟨0, .A⟩ g s))) := rfl
  have h0B : exec (.group0B g) s = .next (type0 g (commonFields ⟨0, .B⟩ g s)) := rfl
  rw [h0A, h0B, type0_common _ 0 rfl, type0_common _ 1 rfl, type0Af_eq]
  exact ⟨rfl, rfl⟩

/-- Settles O34: the row is the common fields and then slow labelling, which writes PAGING_CFG in every case. -/
theorem type1AResult : Obligations.Type1AResult := by
  unfold Obligations.Type1AResult
  intro g s n hn st
  have hexec : exec (.group1A g) s = .next (slowLabelling g (commonFields ⟨1, .A⟩ g s)) := rfl
  rw [hexec, slowLabelling_eq hn]
  exact ⟨rfl, pagingActive_iff rfl⟩

/-- Settles O44: block 3's bits are written over those of block 1. -/
theorem type15BResult : Obligations.Type15BResult := by
  unfold Obligations.Type15BResult
  intro g s d1 d3 h1 h3
  have hseg : (g.b3.extractLsb' 0 5).extractLsb' 0 2 = g.b3.extractLsb' 0 2 :=
    BitVec.eq_of_getLsbD_eq fun i hi => by simp [hi]
  have h3' : d3.val + ((g.b3.extractLsb' 0 5).extractLsb' 0 2).toNat = 3 := by rw [hseg, h3]
  have hbit (i : Nat) (hi : i < 5) : (g.b3.extractLsb' 0 5).getLsbD i = g.b3.getLsbD i := by simp [hi]
  have hexec : exec (.group15B g) s = .next (tuning15B g (commonFields ⟨15, .B⟩ g s)) := rfl
  rw [hexec, tuning15B_eq, tuningBits_eq h1, tuningBits_eq h3', hbit 4 (by decide), hbit 3 (by decide),
    hbit 2 (by decide)]
  cases g.f3 <;> rfl

end

section
/-! The PS unit (43_group_types R108 and R109): PS_WRITE case by case, PS_VALUE, and a unit that receives the segments of
one name only. -/

namespace Sys2Proof.Machine

open Sys2Proof

/-! ## PS_VALUE (R109) -/

theorem shown_of_empty {u : PsUnit} (h : u.hist = []) : u.shown = u.cur := by
  simp [PsUnit.shown, h]

theorem shown_of_voted {u : PsUnit} (h : u.hist ≠ []) :
    ∃ e ∈ u.hist, u.shown = e.value.map some ∧ ∀ x ∈ u.hist, x.weight ≤ e.weight := by
  obtain ⟨e, he, hmax⟩ := psPick_strongest h
  exact ⟨e, List.mem_of_getElem? he, by simp only [PsUnit.shown, he], hmax⟩

/-! ## PS_WRITE (R108) -/

theorem psComplete_eq_none {cur : Vector Cell 8} (h : ∃ c : Fin 8, cur[c] = none) : psComplete cur = none := by
  obtain ⟨c, hc⟩ := h
  refine Option.eq_none_iff_forall_not_mem.mpr fun name hn => ?_
  have := psComplete_iff.mp hn c
  rw [hc] at this
  cases this

section Write

variable {u : PsUnit} {s : BitVec 2} {c0 c1 : Byte}

/-- With a null cell left, only the cells are written. -/
theorem write_keeps_votes (h : ∃ c : Fin 8, (u.write s c0 c1).cur[c] = none) :
    (u.write s c0 c1).hist = u.hist ∧ (u.write s c0 c1).stamp = u.stamp := by
  simp only [write_cur] at h
  rw [write_incomplete (psComplete_eq_none h)]
  exact ⟨rfl, rfl⟩

/-- With all cells written, the write is a vote for the name that they show. -/
theorem write_votes {name : Vector Byte 8} (h : ∀ c : Fin 8, (u.write s c0 c1).cur[c] = some name[c]) :
    u.write s c0 c1 = PsUnit.vote name { u with cur := psCells u.cur s c0 c1 } := by
  simp only [write_cur] at h
  exact write_complete (psComplete_iff.mpr h)

end Write

/-- A vote advances the stamp, whether its entry is there or new. -/
theorem vote_stamp (u : PsUnit) (name : Vector Byte 8) : (u.vote name).stamp = u.stamp + 1 := rfl

/-- A vote for a value in the history counts its entry and leaves the others. -/
theorem vote_known_hist {u : PsUnit} {name : Vector Byte 8} (h : ∃ e ∈ u.hist, e.value = name) :
    (u.vote name).hist = u.hist.map fun e =>
      if e.value = name then
        ⟨name, if e.count.toNat + 1 < 2 ^ 32 then e.count + 1 else e.count, u.stamp + 1⟩
      else e := by
  rw [vote_known h]
  refine List.map_congr_left fun e _ => ?_
  split
  · subst name
    rfl
  · rfl

/-- A vote for a new value appends its entry to what the history has room for. -/
theorem vote_new_hist {u : PsUnit} {name : Vector Byte 8} (h : ∀ e ∈ u.hist, e.value ≠ name) :
    (u.vote name).hist = psRoom u.hist ++ [⟨name, 1, u.stamp + 1⟩] := by
  rw [vote_new h]

/-- The values in the history after a vote: the name, and values that were there. -/
theorem value_of_mem_vote {u : PsUnit} {name : Vector Byte 8} {e : PsEntry} (h : e ∈ (u.vote name).hist) :
    e.value = name ∨ ∃ e' ∈ u.hist, e'.value = e.value := by
  rcases vote_cases u name with hk | hn
  · rw [vote_known_hist hk] at h
    obtain ⟨e', he', rfl⟩ := List.mem_map.mp h
    split
    · exact .inl rfl
    · exact .inr ⟨e', he', rfl⟩
  · rw [vote_new_hist hn] at h
    rcases List.mem_append.mp h with h | h
    · exact .inr ⟨e, (psRoom_sublist _).subset h, rfl⟩
    · rw [List.mem_singleton.mp h]
      exact .inl rfl

theorem vote_hist_ne_nil (u : PsUnit) (name : Vector Byte 8) : (u.vote name).hist ≠ [] := by
  rcases vote_cases u name with hk | hn
  · obtain ⟨e, he, -⟩ := id hk
    rw [vote_known_hist hk]
    simpa using List.ne_nil_of_mem he
  · simp [vote_new_hist hn]

/-! ## The segments of one name -/

/-- The unit after the segment `k` of a name. -/
def PsUnit.writeSegment (name : Vector Byte 8) (u : PsUnit) (k : BitVec 2) : PsUnit :=
  u.write k (name[2 * k.toNat]'(by omega)) (name[2 * k.toNat + 1]'(by omega))

/-- A unit that holds nothing but one name: every written cell and every vote agrees with it, and the name has a vote once
all its cells are written. -/
structure PsAgrees (name : Vector Byte 8) (u : PsUnit) : Prop where
  cells : ∀ c : Fin 8, u.cur[c] = none ∨ u.cur[c] = some name[c]
  votes : ∀ e ∈ u.hist, e.value = name
  voted : (∀ c : Fin 8, u.cur[c] = some name[c]) → u.hist ≠ []

section Name

variable {name : Vector Byte 8} {u : PsUnit}

theorem writeSegment_cur (k : BitVec 2) (c : Fin 8) :
    (u.writeSegment name k).cur[c] = if c.val / 2 = k.toNat then some name[c] else u.cur[c] := by
  obtain ⟨c, hc⟩ := c
  rw [PsUnit.writeSegment, write_cur, psCells_get]
  by_cases h0 : c = 2 * k.toNat
  · subst h0
    simp
  · by_cases h1 : c = 2 * k.toNat + 1
    · subst h1
      simp [show (2 * k.toNat + 1) / 2 = k.toNat by omega]
    · rw [if_neg h0, if_neg h1, if_neg (by dsimp only; omega)]

theorem psAgrees_fresh (name : Vector Byte 8) : PsAgrees name PsUnit.fresh where
  cells c := .inl (by simp [PsUnit.fresh])
  votes e he := nomatch he
  voted h := nomatch h 0

/-- A segment of the name keeps the unit in agreement with it. -/
theorem PsAgrees.writeSegment (h : PsAgrees name u) (k : BitVec 2) : PsAgrees name (u.writeSegment name k) := by
  have hcells (c : Fin 8) : (u.writeSegment name k).cur[c] = none ∨ (u.writeSegment name k).cur[c] = some name[c] := by
    rw [writeSegment_cur]
    split
    · exact .inr rfl
    · exact h.cells c
  by_cases hfull : ∀ c : Fin 8, (u.writeSegment name k).cur[c] = some name[c]
  · have hvote := write_votes hfull
    refine ⟨hcells, fun e he => ?_, fun _ => ?_⟩
    · rw [PsUnit.writeSegment, hvote] at he
      rcases value_of_mem_vote he with hv | ⟨e', he', hv⟩
      · exact hv
      · exact hv ▸ h.votes e' he'
    · rw [PsUnit.writeSegment, hvote]
      exact vote_hist_ne_nil _ _
  · have hnull : ∃ c : Fin 8, (u.writeSegment name k).cur[c] = none := by
      obtain ⟨c, hc⟩ := not_forall.mp hfull
      exact ⟨c, (hcells c).resolve_right hc⟩
    obtain ⟨hhist, -⟩ := write_keeps_votes hnull
    exact ⟨hcells, fun e he => h.votes e (hhist ▸ he), fun hall => absurd hall hfull⟩

/-- Any number of segments keeps the agreement, and the cells of every segment among them are written. -/
theorem PsAgrees.segments (h : PsAgrees name u) (segments : List (BitVec 2)) :
    PsAgrees name (segments.foldl (PsUnit.writeSegment name) u) ∧
      ∀ c : Fin 8, u.cur[c] = some name[c] ∨ (∃ k ∈ segments, c.val / 2 = k.toNat) →
        (segments.foldl (PsUnit.writeSegment name) u).cur[c] = some name[c] := by
  induction segments generalizing u with
  | nil => exact ⟨h, fun c hc => by simpa using hc⟩
  | cons k ks ih =>
    obtain ⟨hagrees, hwritten⟩ := ih (h.writeSegment k)
    refine ⟨hagrees, fun c hc => hwritten c ?_⟩
    rw [writeSegment_cur]
    rcases hc with hc | ⟨k', hk', hc⟩
    · left
      split
      · rfl
      · exact hc
    · rcases List.mem_cons.mp hk' with rfl | hk'
      · exact .inl (if_pos hc)
      · exact .inr ⟨k', hk', hc⟩

/-- A unit in agreement with a name shows it once all cells are written. -/
theorem PsAgrees.shown (h : PsAgrees name u) (hall : ∀ c : Fin 8, u.cur[c] = some name[c]) :
    u.shown = name.map some := by
  obtain ⟨e, he, hshown, -⟩ := shown_of_voted (h.voted hall)
  rw [hshown, h.votes e he]

end Name

end Sys2Proof.Machine

open Sys2Proof Sys2Proof.Machine

/-- Settles O32: a complete write is a vote, which finds its entry, appends it, or evicts the weakest entry first. -/
theorem psWriteResult : Obligations.PsWriteResult := by
  unfold Obligations.PsWriteResult
  intro u s c0 c1 v
  refine ⟨fun c => ?_, write_keeps_votes, fun name hname => ?_⟩
  · show (u.write s c0 c1).cur[c] = _
    rw [write_cur, psCells_get]
  · rw [show v = _ from write_votes hname]
    refine ⟨vote_stamp _ _, vote_known_hist, fun hnew hroom => ?_, fun hnew hfull => ?_⟩
    · exact (vote_new_hist hnew).trans (congrArg (· ++ _) (psRoom_short hroom))
    · obtain ⟨pre, e, post, hsplit, hrest, hmin⟩ := psRoom_full hfull
      exact ⟨pre, e, post, hsplit, (vote_new_hist hnew).trans (congrArg (· ++ _) hrest),
        fun x hx => (PsEntry.weight_le_iff e x).mp (hmin x hx)⟩

/-- Settles O33: the segments keep the unit in agreement with the name, and with all four seen the name has a vote. -/
theorem psNameConverges : Obligations.PsNameConverges := by
  unfold Obligations.PsNameConverges
  refine ⟨fun u => ⟨shown_of_empty, fun h => ?_⟩, fun name segments hall => ?_⟩
  · obtain ⟨e, he, hshown, hmax⟩ := shown_of_voted h
    exact ⟨e, he, hshown, fun x hx => (PsEntry.weight_le_iff x e).mp (hmax x hx)⟩
  · obtain ⟨hagrees, hwritten⟩ := (psAgrees_fresh name).segments segments
    refine hagrees.shown fun c => hwritten c (.inr ⟨BitVec.ofNat 2 (c.val / 2), hall _, ?_⟩)
    rw [BitVec.toNat_ofNat, Nat.mod_eq_of_lt (by omega)]

end

section
/-! Radiotext (43_group_types R113 and R114): the characters of a 2A group, what they write, and the message boundary. -/

namespace Sys2Proof.Machine

open Sys2Proof

/-! ## The characters of a group (30_encoding R67) -/

theorem eq_rtCell_iff {a : BitVec 4} {k : Fin 4} {c : Fin 64} :
    c = rtCell a k ↔ c.val / 4 = a.toNat ∧ c.val % 4 = k.val := by
  rw [Fin.ext_iff]
  dsimp only [rtCell]
  omega

/-- The pieces of a group are the characters that `rtWritten` gives. -/
theorem mem_rtPieces {g : GroupFields} {c : Fin 64} {ch : Byte} : (c, ch) ∈ rtPieces g ↔ rtWritten g c = some ch := by
  have hmem : (c, ch) ∈ rtPieces g ↔
      g.f2 = true ∧ (c = rtCell (xLow4 g.x) 0 ∧ ch = hiByte g.b2 ∨ c = rtCell (xLow4 g.x) 1 ∧ ch = loByte g.b2) ∨
      g.f3 = true ∧ (c = rtCell (xLow4 g.x) 2 ∧ ch = hiByte g.b3 ∨ c = rtCell (xLow4 g.x) 3 ∧ ch = loByte g.b3) := by
    cases h2 : g.f2 <;> cases h3 : g.f3 <;> simp [rtPieces, blk2, blk3, h2, h3, or_assoc]
  rw [hmem]
  simp only [eq_rtCell_iff, rtWritten, xLow4, hiByte, loByte]
  generalize (g.x.extractLsb' 0 4).toNat = a
  by_cases ha : c.val / 4 = a
  · have hk : c.val % 4 = 0 ∨ c.val % 4 = 1 ∨ c.val % 4 = 2 ∨ c.val % 4 = 3 := by omega
    rcases hk with hk | hk | hk | hk <;> simp [ha, hk, @eq_comm _ ch]
  · simp [ha]

theorem rtPieces_isEmpty {g : GroupFields} : (rtPieces g).isEmpty = true ↔ g.f2 = false ∧ g.f3 = false := by
  cases h2 : g.f2 <;> cases h3 : g.f3 <;> simp [rtPieces, blk2, blk3, h2, h3]

/-! ## The written cells (R113) -/

section Put

variable {pcs : List (Fin 64 × Byte)} {c : Fin 64} {buf : Vector Cell 64}

theorem rtPut_cons (p : Fin 64 × Byte) (pcs : List (Fin 64 × Byte)) (buf : Vector Cell 64) :
    rtPut buf (p :: pcs) = rtPut (buf.set p.1 (some p.2)) pcs := rfl

theorem rtPut_get_other (h : ∀ ch, (c, ch) ∉ pcs) : (rtPut buf pcs)[c] = buf[c] := by
  induction pcs generalizing buf with
  | nil => rfl
  | cons p pcs ih =>
    have hp : p.1.val ≠ c.val := fun e => h p.2 (by rw [← Fin.ext e]; exact List.mem_cons_self)
    rw [rtPut_cons, ih fun ch hch => h ch (List.mem_cons_of_mem _ hch)]
    exact Vector.getElem_set_ne _ _ hp

/-- A cell all whose pieces carry one character holds it, once a piece is written or if it held it before. -/
theorem rtPut_get_same {ch : Byte} (hsame : ∀ ch', (c, ch') ∈ pcs → ch' = ch)
    (h : buf[c] = some ch ∨ (c, ch) ∈ pcs) : (rtPut buf pcs)[c] = some ch := by
  induction pcs generalizing buf with
  | nil => simpa [rtPut] using h
  | cons p pcs ih =>
    rw [rtPut_cons]
    refine ih (fun ch' hch' => hsame ch' (List.mem_cons_of_mem _ hch')) ?_
    by_cases hp : p.1 = c
    · left
      rw [← hsame p.2 (by rw [← hp]; exact List.mem_cons_self), ← hp]
      exact Vector.getElem_set_self _
    · rcases h with h | h
      · left
        rw [← h]
        exact Vector.getElem_set_ne _ _ fun e => hp (Fin.ext e)
      · right
        rcases List.mem_cons.mp h with rfl | h
        · exact absurd rfl hp
        · exact h

end Put

/-- The cells after a group's characters are written. -/
theorem rtPut_rtPieces (g : GroupFields) (buf : Vector Cell 64) (c : Fin 64) :
    (rtPut buf (rtPieces g))[c] = (rtWritten g c).or buf[c] := by
  cases hw : rtWritten g c with
  | none => exact rtPut_get_other fun ch hch => by simp [mem_rtPieces.mp hch] at hw
  | some ch =>
    refine rtPut_get_same (fun ch' hch' => ?_) (.inr (mem_rtPieces.mpr hw))
    exact Option.some.inj ((mem_rtPieces.mp hch').symm.trans hw)

theorem rtOverwrites_iff {g : GroupFields} {buf : Vector Cell 64} : rtOverwrites buf (rtPieces g) = true ↔
    ∃ c ch, rtWritten g c = some ch ∧ buf[c] ≠ none ∧ buf[c] ≠ some ch := by
  simp only [rtOverwrites, List.any_eq_true, Prod.exists, mem_rtPieces, Bool.and_eq_true, bne_iff_ne]

theorem rtToggled_iff {flag : Option Bool} {ab : Bool} : rtToggled flag ab = true ↔ flag = some (!ab) := by
  cases flag with
  | none => simp [rtToggled]
  | some f => cases f <;> cases ab <;> decide

/-! ## The archive (R114) -/

theorem any_isSome_iff {buf : Vector Cell 64} : buf.toList.any (·.isSome) = true ↔ ∃ c : Fin 64, buf[c] ≠ none := by
  rw [List.any_eq_true]
  constructor
  · rintro ⟨cell, hmem, hsome⟩
    obtain ⟨i, hi, rfl⟩ := Vector.mem_iff_getElem.mp (Vector.mem_toList_iff.mp hmem)
    exact ⟨⟨i, hi⟩, Option.isSome_iff_ne_none.mp hsome⟩
  · rintro ⟨c, hc⟩
    exact ⟨buf[c], Vector.mem_toList_iff.mpr (Vector.getElem_mem _), Option.isSome_iff_ne_none.mpr hc⟩

theorem rtArchive_eq (arch : List (Vector Cell 64)) (buf : Vector Cell 64) :
    rtArchive arch buf = if arch.length < 8 then arch ++ [buf] else (arch ++ [buf]).tail := by
  by_cases h : arch.length < 8
  · rw [if_pos h]
    exact if_neg (by simp [Config.rtArchiveDepth]; omega)
  · rw [if_neg h]
    exact if_pos (by simp [Config.rtArchiveDepth]; omega)

/-! ## The write -/

section Write

variable {ab : Bool} {pcs : List (Fin 64 × Byte)} {u : RtUnit}

theorem rtWrite_boundary (hne : pcs.isEmpty = false) (h : (rtToggled u.flag ab || rtOverwrites u.buf pcs) = true) :
    u.write ab pcs =
      { flag := some ab
        arch := if u.buf.toList.any (·.isSome) then rtArchive u.arch u.buf else u.arch
        buf := rtPut (Vector.replicate 64 none) pcs } := by
  rw [RtUnit.write, if_neg (Bool.eq_false_iff.mp hne), if_pos h]

theorem rtWrite_same (hne : pcs.isEmpty = false) (h : (rtToggled u.flag ab || rtOverwrites u.buf pcs) = false) :
    u.write ab pcs = { u with flag := some ab, buf := rtPut u.buf pcs } := by
  rw [RtUnit.write, if_neg (Bool.eq_false_iff.mp hne), if_neg (Bool.eq_false_iff.mp h)]

end Write

end Sys2Proof.Machine

open Sys2Proof Sys2Proof.Machine

/-- Settles O35: the write tests every piece before it writes one, and what it tests is what makes a boundary. -/
theorem type2AResult : Obligations.Type2AResult := by
  unfold Obligations.Type2AResult
  intro g s
  refine ⟨s.st.rt.write (x4 g.x) (rtPieces g), rfl, fun hnone => ?_, fun boundary hsome hboundary => ?_⟩
  · rw [RtUnit.write, if_pos (rtPieces_isEmpty.mpr hnone)]
  · have hne : (rtPieces g).isEmpty = false := by
      rw [Bool.eq_false_iff, ne_eq, rtPieces_isEmpty]
      rintro ⟨h2, h3⟩
      simp [h2, h3] at hsome
    have htest : (rtToggled s.st.rt.flag (x4 g.x) || rtOverwrites s.st.rt.buf (rtPieces g)) = boundary := by
      rw [Bool.eq_iff_iff, Bool.or_eq_true, rtToggled_iff, rtOverwrites_iff]
      exact hboundary.symm
    cases boundary with
    | true =>
      rw [rtWrite_boundary hne htest]
      refine ⟨rfl, fun c => ?_, ?_⟩
      · rw [rtPut_rtPieces]
        cases rtWritten g c <;> simp
      · simp only [rtArchive_eq, any_isSome_iff, true_and]
    | false =>
      rw [rtWrite_same hne htest]
      refine ⟨rfl, fun c => ?_, by simp⟩
      rw [rtPut_rtPieces]
      cases rtWritten g c <;> simp

end

section
/-! ODA (43_group_types R115 to R118): the forward of a group to the handler of its slot, the announcement 3A, and 7A
between paging and the forward. -/

namespace Sys2Proof.Machine

open Sys2Proof

variable {s : State} {g : GroupFields}

/-! ## Forwarding (R117) -/

theorem handler_of_slot {slot : Slot} {o : OdaSlot} (h : s.st.slot[slotIndex slot] = some o) :
    s.st.handler? slot = o.handler := by
  simp only [Station.handler?, h]

theorem handler_of_empty {slot : Slot} (h : s.st.slot[slotIndex slot] = none) : s.st.handler? slot = none := by
  simp only [Station.handler?, h]

/-- A group of its own slot's type, other than an announcement, goes to the handler of that slot. -/
theorem odaForward_forwarded {slot : Slot} (hs : slot.type ≠ 3) (g : GroupFields) (s : State) :
    Forwarded s (odaForward slot g s) slot g := by
  constructor
  · intro o n state ho hh
    rw [odaForward, recv_platform ho hh, ofB1_group]
    rfl
  · intro hnone
    have htmc : odaForward slot g s = recvTmc slot (g.group slot) s := by
      refine recv_eq_recvTmc fun n state hh => ?_
      cases ho : s.st.slot[slotIndex slot] with
      | none => simp [handler_of_empty ho] at hh
      | some o => exact hnone o n state ho ((handler_of_slot ho).symm.trans hh)
    rw [htmc]
    obtain ⟨hmissing, hform⟩ := recvTmc_cases slot hs g s
    exact ⟨hmissing, hform⟩

/-- A row that counts its group and forwards it. -/
theorem exec_forwards {i : Instr} {slot : Slot} {k : Fin 32} (hk : slotIndex slot = k) (hs : slot.type ≠ 3)
    (hi : exec i s = .next (odaForward slot g (commonFields slot g s))) :
    ∃ t, exec i s = .next t ∧ Forwarded { s with st := counted k g s.st } t slot g := by
  rw [commonFields_eq, hk] at hi
  exact ⟨_, hi, odaForward_forwarded hs g _⟩

/-! ## The announcement (R115) -/

theorem slotIndex_odaTarget {x : BitVec 5} {k : Fin 32}
    (h : k.val = 2 * (x.extractLsb' 1 4).toNat + (x.getLsbD 0).toNat) : slotIndex (odaTarget x) = k := by
  refine Fin.ext ?_
  rw [h]
  cases hx : x.getLsbD 0 <;> simp only [slotIndex, odaTarget, hx] <;> rfl

theorem announced_same {p : Params} {o : OdaSlot} {aid : Word} (h : o.aid = aid) : announced p aid (some o) = o :=
  if_pos h

theorem announced_other {p : Params} {o : Option OdaSlot} {aid : Word} (h : ∀ o', o = some o' → o'.aid ≠ aid) :
    announced p aid o = ⟨aid, newHandler (handlerOf p aid)⟩ := by
  cases o with
  | none => rfl
  | some o' => exact if_neg (h o' rfl)

/-- TMC does nothing with the group that announces it (44_tmc R127). -/
theorem recvTmc_announcement (slot : Slot) (g : GroupFields) (s : State) :
    recvTmc slot (g.group ⟨3, .A⟩) s = s := by
  have hd : ∃ e, decodeTmc slot (g.group ⟨3, .A⟩) = .error e := by
    unfold decodeTmc
    split
    · exact ⟨_, if_pos (congrArg Slot.type (ofB1_group ⟨3, .A⟩ g))⟩
    · exact ⟨_, rfl⟩
  obtain ⟨e, he⟩ := hd
  simp only [recvTmc, he]

/-- The announcing group changes nothing unless a platform's handler gets it. -/
theorem recv_announcement {slot : Slot} (h : ∀ n state, s.st.handler? slot ≠ some (.platform n state))
    (g : GroupFields) : recv slot (g.group ⟨3, .A⟩) s = s :=
  (recv_eq_recvTmc h).trans (recvTmc_announcement slot g s)

/-- The state with the content of a slot written. -/
def withSlot (k : Fin 32) (o : OdaSlot) (s : State) : State :=
  { s with st := { s.st with slot := s.st.slot.set k (some o) } }

theorem handler_withSlot (slot : Slot) (o : OdaSlot) (s : State) :
    (withSlot (slotIndex slot) o s).st.handler? slot = o.handler :=
  handler_of_slot (Vector.getElem_set_self _)

theorem recv_withSlot_platform {slot : Slot} {o : OdaSlot} {n : Nat} {state : Config.HandlerState}
    (h : o.handler = some (.platform n state)) (grp : Group) (s : State) :
    recv slot grp (withSlot (slotIndex slot) o s) =
      withSlot (slotIndex slot) ⟨o.aid, some (.platform n
        (Config.handlerRecv n state (Slot.ofB1 grp.values[1]) grp.flags grp.values grp.bt))⟩ s := by
  rw [recv_platform (Vector.getElem_set_self _) h]
  simp only [withSlot, State.updSt, Vector.set_set]

/-- 3A without block 3 does nothing, and with it writes the announced slot and forwards the group with a valid block 2. -/
theorem oda3A_without_aid (h : g.f3 = false) (s : State) : oda3A g s = s := by
  simp [oda3A, blk3, h]

theorem oda3A_with_aid {o : OdaSlot} (h : g.f3 = true)
    (ho : announced s.params g.b3 s.st.slot[slotIndex (odaTarget g.x)] = o) : oda3A g s =
      if g.f2 then recv (odaTarget g.x) (g.group ⟨3, .A⟩) (withSlot (slotIndex (odaTarget g.x)) o s)
      else withSlot (slotIndex (odaTarget g.x)) o s := by
  simp only [oda3A, blk3, h, if_true, ← ho]
  rfl

/-- A platform's handler that gets the announcing group is replaced by what its RECV gives. -/
theorem oda3A_platform {o : OdaSlot} {n : Nat} {state : Config.HandlerState} (h2 : g.f2 = true) (h3 : g.f3 = true)
    (ho : announced s.params g.b3 s.st.slot[slotIndex (odaTarget g.x)] = o)
    (hh : o.handler = some (.platform n state)) : oda3A g s =
      withSlot (slotIndex (odaTarget g.x)) ⟨o.aid, some (.platform n
        (Config.handlerRecv n state ⟨3, .A⟩ (g.group ⟨3, .A⟩).flags (g.group ⟨3, .A⟩).values g.bt))⟩ s := by
  rw [oda3A_with_aid h3 ho, if_pos h2, recv_withSlot_platform hh, ofB1_group]
  rfl

/-- Any other slot is as announced. -/
theorem oda3A_other {o : OdaSlot} (h3 : g.f3 = true)
    (ho : announced s.params g.b3 s.st.slot[slotIndex (odaTarget g.x)] = o)
    (hh : g.f2 = true → ∀ n state, o.handler ≠ some (.platform n state)) : oda3A g s =
      withSlot (slotIndex (odaTarget g.x)) o s := by
  rw [oda3A_with_aid h3 ho]
  split
  · rename_i h2
    exact recv_announcement (by rw [handler_withSlot]; exact hh h2) g
  · rfl

end Sys2Proof.Machine

open Sys2Proof Sys2Proof.Machine

/-- Settles O39: each row is the common fields and the forward, and the forward runs the form or the platform's RECV. -/
theorem odaGroupsRunTheirTmcForm : Obligations.OdaGroupsRunTheirTmcForm := by
  unfold Obligations.OdaGroupsRunTheirTmcForm
  intro g s result
  exact ⟨exec_forwards rfl (by decide) rfl, exec_forwards rfl (by decide) rfl, exec_forwards rfl (by decide) rfl,
    exec_forwards rfl (by decide) rfl, exec_forwards rfl (by decide) rfl, exec_forwards rfl (by decide) rfl,
    exec_forwards rfl (by decide) rfl, exec_forwards rfl (by decide) rfl⟩

/-- Settles O40: PAGING_ACTIVE, which the common fields leave alone, decides between paging and the forward. -/
theorem type7AResult : Obligations.Type7AResult := by
  unfold Obligations.Type7AResult
  intro g s s'
  have hexec : exec (.group7A g) s = .next (pagingOrOda g s') := rfl
  have hactive : s'.st.pagingActive = true ↔ ∃ c, s.st.pagingCfg = some c ∧ c.extractLsb' 2 3 ≠ 0 := by
    have hcfg : s'.st.pagingCfg = s.st.pagingCfg := rfl
    cases hc : s.st.pagingCfg <;> simp [Station.pagingActive, hcfg, hc]
  rw [hexec]
  split
  · rename_i h
    rw [pagingOrOda, if_pos (hactive.mpr h)]
    rfl
  · rename_i h
    refine ⟨_, rfl, ?_⟩
    rw [pagingOrOda, if_neg fun ha => h (hactive.mp ha)]
    exact odaForward_forwarded (by decide) g s'

/-- Settles O36: the slot holds what `announced` gives, and the announcing group changes a platform's handler only. -/
theorem type3AResult : Obligations.Type3AResult := by
  unfold Obligations.Type3AResult
  intro g s k o hk
  obtain ⟨s', hs'⟩ : ∃ s' : State, s' = { s with st := counted 6 g s.st } := ⟨_, rfl⟩
  have hexec : exec (.group3A g) s = .next (oda3A g s') := by
    rw [hs']
    rfl
  obtain rfl : slotIndex (odaTarget g.x) = k := slotIndex_odaTarget hk
  rw [hexec]
  refine ⟨fun h3 => by rw [oda3A_without_aid h3, hs'], fun h3 haid hslot => ?_⟩
  have hannounced : announced s'.params g.b3 s'.st.slot[slotIndex (odaTarget g.x)] = o := by
    rw [hs']
    show announced s.params g.b3 s.st.slot[slotIndex (odaTarget g.x)] = o
    rcases hslot with hsame | ⟨hother, hnew⟩
    · rw [hsame, announced_same haid]
    · have hhandler : newHandler (handlerOf s.params g.b3) = o.handler := by
        rw [hnew, handlerOf]
        split
        · rfl
        · generalize s.params.handlers.find? _ = found
          rcases found with _ | ⟨_, _ | n⟩ <;> rfl
      rw [announced_other hother, hhandler, ← haid]
  obtain ⟨aid, h⟩ := o
  obtain rfl : aid = g.b3 := haid
  rcases h with _ | t | ⟨n, state⟩
  · rw [oda3A_other h3 hannounced (by simp), hs']
    rfl
  · rw [oda3A_other h3 hannounced (by simp), hs']
    rfl
  · cases h2 : g.f2 with
    | true =>
      rw [oda3A_platform h2 h3 hannounced rfl, hs']
      simp only [GroupFields.group, Group.of, h2, h3]
      rfl
    | false =>
      rw [oda3A_other h3 hannounced (by simp [h2]), hs']
      rfl

end

section
/-! Enhanced Other Networks (43_group_types R121 to R123): a write to the table of other networks by 14A, its variants and
14B, and what a full table leaves. -/

namespace Sys2Proof.Machine

open Sys2Proof

variable {s : State} {g : GroupFields} {r : OtherNetwork} {pi : Word}

/-! ## The record (R121) -/

/-- The record of a PI(ON) in a table: the one that is there, or a fresh one that fits. -/
def IsOnRecord (pi : Word) (eon : List OtherNetwork) (r : OtherNetwork) : Prop :=
  tabFind OtherNetwork.pi pi eon = some r ∨
    (tabFind OtherNetwork.pi pi eon = none ∧ eon.length < 32 ∧ r = OtherNetwork.fresh pi)

theorem onRecord_some (h : IsOnRecord pi s.st.eon r) : onRecord pi s.st.eon = some r := by
  obtain ⟨-, hr, -⟩ := updOn_written (f := id) h
  exact hr

/-- A write that keeps the record's PI writes that record alone. -/
theorem updOn_onWritten {f : OtherNetwork → OtherNetwork} {r' : OtherNetwork} (h : IsOnRecord pi s.st.eon r)
    (hr' : { f r with pi := r.pi } = r') : OnWritten s (updOn pi f s) r' := by
  obtain ⟨hw, -⟩ := updOn_written (f := f) h
  exact hr' ▸ hw

theorem updOn_refused {f : OtherNetwork → OtherNetwork} (h : onRecord pi s.st.eon = none) : updOn pi f s = s := by
  simp only [updOn, h]

/-! ## The variants of 14A (R122) -/

/-- A variant row runs its function on the record of PI(ON). -/
theorem exec_variant {i : Instr} {f : OtherNetwork → OtherNetwork} {r' : OtherNetwork} (h : IsOnRecord pi s.st.eon r)
    (hi : exec i s = .next (updOn pi f s)) (hr' : { f r with pi := r.pi } = r') :
    ∃ t, exec i s = .next t ∧ OnWritten s t r' :=
  ⟨_, hi, updOn_onWritten h hr'⟩

/-- A variant row whose PI(ON) gets no record changes nothing. -/
theorem runEon_refused (h : onRecord pi s.st.eon = none) (n : BitVec 4) (b2 : Word) : runEon (eonRow n pi b2) s = s := by
  unfold eonRow
  split <;> exact updOn_refused h

/-- A mapped pair is appended, and the last 16 stay. -/
theorem onMapped_eq (n : BitVec 4) (b2 : Word) (r : OtherNetwork) : onMapped n b2 r =
    { r with
      mapped := (r.mapped ++ [(⟨n, b2.extractLsb' 8 8, b2.extractLsb' 0 8⟩ : FreqTriple)]).drop
        (r.mapped.length + 1 - 16) } := by
  simp only [onMapped, lastN, List.length_append, List.length_singleton]
  rfl

/-! ## 14A and 14B (R121 and R123) -/

theorem eon14A_refused (h : g.f3 = false ∨ onRecord g.b3 s.st.eon = none) : eon14A g s = s := by
  rcases h with h | h
  · simp [eon14A, h]
  · simp [eon14A, h]

theorem eon14A_written (h3 : g.f3 = true) (h : onRecord g.b3 s.st.eon = some r) : eon14A g s =
    if g.f2 then
      runEon (eonRow (xLow4 g.x) g.b3 g.b2) (updOn g.b3 (fun r => { r with tp := some (x4 g.x) }) s)
    else updOn g.b3 (fun r => { r with tp := some (x4 g.x) }) s := by
  simp only [eon14A, h3, h, if_true]

theorem eon14B_refused (h : g.f3 = false ∨ onRecord g.b3 s.st.eon = none) : eon14B g s = s := by
  rcases h with h | h
  · simp [eon14B, h]
  · simp [eon14B, h]

theorem eon14B_written (h3 : g.f3 = true) (h : onRecord g.b3 s.st.eon = some r) : eon14B g s =
    taEvents r.ta (x3 g.x) g (updOn g.b3 (fun r => { r with tp := some (x4 g.x), ta := some (x3 g.x) }) s) := by
  simp only [eon14B, h3, h, if_true]

/-- EON_SWITCH is emitted when TA(ON) becomes 1, and EON_RETURN when it was 1 and becomes 0. -/
theorem taEvents_eq (old : Option Bool) (ta : Bool) (g : GroupFields) (s : State) : taEvents old ta g s =
    { s with
      events := s.events ++
        (if ta = true ∧ old ≠ some true then [⟨g.bt, .eonSwitch g.b3⟩]
        else if ta = false ∧ old = some true then [⟨g.bt, .eonReturn g.b3⟩] else []) } := by
  cases ta <;> by_cases h : old = some true <;> simp [taEvents, State.emitEvent, h]

end Sys2Proof.Machine

open Sys2Proof Sys2Proof.Machine

/-- Settles O42: each row is one function on the found or fresh record, and nothing where there is no record. -/
theorem eonVariantResults : Obligations.EonVariantResults := by
  unfold Obligations.EonVariantResults
  constructor
  · intro s pi b2 r h hi lo result mapped
    have hr : IsOnRecord pi s.st.eon r := h
    have hmapped (n : BitVec 4) : { onMapped n b2 r with pi := r.pi } = mapped n := by rw [onMapped_eq]
    exact ⟨exec_variant hr rfl rfl, exec_variant hr rfl rfl, exec_variant hr rfl rfl, exec_variant hr rfl rfl,
      exec_variant hr rfl rfl, exec_variant hr rfl (hmapped 5), exec_variant hr rfl (hmapped 6),
      exec_variant hr rfl (hmapped 7), exec_variant hr rfl (hmapped 8), exec_variant hr rfl (hmapped 9),
      exec_variant hr rfl rfl, exec_variant hr rfl rfl, exec_variant hr rfl rfl, exec_variant hr rfl rfl,
      exec_variant hr rfl rfl, exec_variant hr rfl rfl⟩
  · intro s pi b2 i hnone hfull hi
    have hrows : i ∈ (List.range 16).map fun n => eonRow (BitVec.ofNat 4 n) pi b2 := hi
    obtain ⟨n, -, rfl⟩ := List.mem_map.mp hrows
    rw [runEon_exec, runEon_refused (onRecord_full hnone hfull)]

/-- Settles O41: 14A writes TP(ON) and then runs the variant row that its variant field decodes to. -/
theorem type14AResult : Obligations.Type14AResult := by
  unfold Obligations.Type14AResult
  intro g s s'
  have hexec : exec (.group14A g) s = .next (eon14A g s') := rfl
  rw [hexec]
  refine ⟨fun h3 => ?_, fun h3 hnone hfull => ?_, fun r h3 h => ?_⟩
  · rw [eon14A_refused (.inl h3)]
  · rw [eon14A_refused (.inr (show onRecord g.b3 s'.st.eon = none from onRecord_full hnone hfull))]
  · have hr : IsOnRecord g.b3 s'.st.eon r := h
    refine ⟨updOn g.b3 (fun r => { r with tp := some (x4 g.x) }) s', eon14A g s', updOn_onWritten hr rfl, rfl, ?_, ?_⟩
    · intro h2
      simp [eon14A_written h3 (onRecord_some hr), h2]
    · intro h2
      refine ⟨_, rfl, ?_⟩
      rw [eon14A_written h3 (onRecord_some hr), if_pos h2]
      exact runEon_exec _ _ _ _

/-- Settles O43: 14B writes TP(ON) and TA(ON), and the events depend on the TA(ON) that was there. -/
theorem type14BResult : Obligations.Type14BResult := by
  unfold Obligations.Type14BResult
  intro g s s'
  have hexec : exec (.group14B g) s = .next (eon14B g s') := rfl
  rw [hexec]
  refine ⟨fun h3 => ?_, fun h3 hnone hfull => ?_, fun r h3 h => ?_⟩
  · rw [eon14B_refused (.inl h3)]
  · rw [eon14B_refused (.inr (show onRecord g.b3 s'.st.eon = none from onRecord_full hnone hfull))]
  · have hr : IsOnRecord g.b3 s'.st.eon r := h
    have hw := updOn_onWritten (f := fun r => { r with tp := some (x4 g.x), ta := some (x3 g.x) }) hr rfl
    refine ⟨_, hw, ?_⟩
    obtain ⟨⟨eon, hu⟩, -⟩ := hw
    rw [eon14B_written h3 (onRecord_some hr), taEvents_eq, hu]
    rfl

end

section
/-! TMC rows on a slot that holds no TMC handler (43_group_types R117, log 21). -/

namespace Sys2Proof.Machine

open Sys2Proof

/-- Every row that names a slot runs a form on the handler of that slot, which may emit a message. -/
theorem exec_slotRow {i : Instr} {slot : Slot} (h : i.slot? = some slot) (s : State) :
    ∃ bt f, exec i s = .next (withInst slot bt f s) := by
  have onInst {f : TmcInst → TmcInst} (hi : exec i s = .next (updInst slot f s)) :
      ∃ bt f, exec i s = .next (withInst slot bt f s) := ⟨0, fun t => (f t, none), hi⟩
  have onMsg {f : TmcMsg → TmcMsg} (hi : exec i s = .next (updMsg slot f s)) :
      ∃ bt f, exec i s = .next (withInst slot bt f s) := onInst hi
  cases i
  case tmcSingle | tmcSubsequent =>
    cases h
    exact ⟨_, _, rfl⟩
  case alertcL0 | alertcL1 | alertcL2 | alertcL3 | alertcL4 | alertcL5 | alertcL6 | alertcL7 | alertcL8 | alertcL9
      | alertcL10 | alertcL11 | alertcL12 | alertcL13 | alertcL14 | alertcL15 =>
    cases h
    exact onMsg rfl
  case tmcTuning | tmcFirst | tmcTuningV0 | tmcTuningV1 | tmcTuningV2 | tmcTuningV3 | tmcTuningV4 | tmcTuningV5
      | tmcTuningV6 | tmcTuningV7 | tmcTuningV8 | tmcTuningV9 | tmcTuningV10 | tmcTuningV11 | tmcTuningV12
      | tmcTuningV13 | tmcTuningV14 | tmcTuningV15 =>
    cases h
    exact onInst rfl
  all_goals cases h

end Sys2Proof.Machine

open Sys2Proof Sys2Proof.Machine

/-- Settles O53: a row runs its form on the TMC handler of its slot, and there is none. -/
theorem rowsOfASlotWithoutInstanceChangeNothing : Obligations.RowsOfASlotWithoutInstanceChangeNothing := by
  unfold Obligations.RowsOfASlotWithoutInstanceChangeNothing
  intro i s slot hslot hnone
  obtain ⟨bt, f, hexec⟩ := exec_slotRow hslot s
  rw [hexec, withInst_empty (inst_none_iff.mpr hnone)]

end

section
/-! CIVIL (43_group_types R120) is the Gregorian calendar. Days are counted in years that begin on 1 March, so that the
leap day is the last of its year: a day number has one such year, CIVIL finds it, and both the day of the year and the year
itself advance as `nextDay` says. -/

namespace Sys2Proof.Machine

open Sys2Proof

/-! ## Years from 1 March -/

/-- The day on which the March year `y` begins, counted from 1 March of the year 0. -/
def marchStart (y : Int) : Int := 365 * y + y / 4 - y / 100 + y / 400

/-- The leap day at the end of the March year `y`: 1 if it has one. -/
def leapDay (y : Int) : Int := if leapYear (y + 1) then 1 else 0

theorem leapDay_cases (y : Int) :
    leapDay y = 1 ∧ (y + 1) % 4 = 0 ∧ ((y + 1) % 100 ≠ 0 ∨ (y + 1) % 400 = 0) ∨
      leapDay y = 0 ∧ ((y + 1) % 4 ≠ 0 ∨ (y + 1) % 100 = 0 ∧ (y + 1) % 400 ≠ 0) := by
  unfold leapDay leapYear
  split <;> rename_i h <;> rw [decide_eq_true_eq] at h <;> omega

theorem marchStart_succ (y : Int) : marchStart (y + 1) = marchStart y + 365 + leapDay y := by
  have := leapDay_cases y
  unfold marchStart
  omega

/-- Every day lies in a March year. -/
theorem exists_marchYear (z : Int) : ∃ y, marchStart y ≤ z ∧ z < marchStart (y + 1) := by
  induction z using Int.induction_on with
  | zero => exact ⟨0, by decide, by decide⟩
  | succ i ih =>
    obtain ⟨y, hle, hlt⟩ := ih
    by_cases h : i + 1 < marchStart (y + 1)
    · exact ⟨y, by omega, h⟩
    · have hnext := marchStart_succ (y + 1)
      have := leapDay_cases (y + 1)
      exact ⟨y + 1, by omega, by omega⟩
  | pred i ih =>
    obtain ⟨y, hle, hlt⟩ := ih
    by_cases h : marchStart y ≤ -i - 1
    · exact ⟨y, h, by omega⟩
    · have hprev := marchStart_succ (y - 1)
      have := leapDay_cases (y - 1)
      rw [Int.sub_add_cancel] at hprev
      exact ⟨y - 1, by omega, by rw [Int.sub_add_cancel]; omega⟩

/-! ## The year that CIVIL computes -/

/-- CIVIL's year of the era, from the day of the era. -/
def yearOfEra (doe : Int) : Int := (doe - doe / 1460 + doe / 36524 - doe / 146096) / 365

/-- CIVIL's year of the era is the March year of the day. A year is split into centuries, quadriennia and years. -/
theorem yearOfEra_eq {y d : Int} (hy0 : 0 ≤ y) (hy : y < 400) (hd0 : 0 ≤ d)
    (hd : marchStart y + d < marchStart (y + 1)) : yearOfEra (marchStart y + d) = y := by
  obtain ⟨c, q, r, rfl, hc0, hc3, hq0, hq24, hr0, hr3⟩ :
      ∃ c q r : Int, y = 100 * c + 4 * q + r ∧ 0 ≤ c ∧ c ≤ 3 ∧ 0 ≤ q ∧ q ≤ 24 ∧ 0 ≤ r ∧ r ≤ 3 :=
    ⟨y / 100, y % 100 / 4, y % 4, by omega⟩
  have hstart : marchStart (100 * c + 4 * q + r) = 36524 * c + 1461 * q + 365 * r := by
    unfold marchStart
    omega
  have hlast : d ≤ 364 ∨ d = 365 ∧ r = 3 ∧ (q < 24 ∨ c = 3) := by
    unfold marchStart at hd
    omega
  rw [hstart, yearOfEra]
  clear hd hstart
  generalize hdoe : 36524 * c + 1461 * q + 365 * r + d = doe
  have hcentury : doe / 36524 - doe / 146096 = c := by
    have hend : doe < 36524 * c + 36524 ∨ doe = 146096 ∧ c = 3 := by omega
    rcases hend with hend | ⟨hend, hc⟩ <;> omega
  have hquad : doe / 1460 = 25 * c + q + if d + 365 * r + 24 * c + q < 1460 then 0 else 1 := by
    split <;> omega
  rw [Int.add_sub_assoc, hcentury, hquad]
  split <;> omega

/-! ## Months from March -/

/-- The calendar month of the month `i` of a March year, March being 0. -/
def marchMonth (i : Int) : Int := if i < 10 then i + 3 else i - 9

/-- The days of a March year before its month `i`. -/
def marchDays (i : Int) : Int := (153 * i + 2) / 5

/-- The date of the day `d` of the March year `y`. -/
def marchDate (y d : Int) : Int × Int × Int :=
  (y + (if marchMonth ((5 * d + 2) / 153) ≤ 2 then 1 else 0), marchMonth ((5 * d + 2) / 153),
    d - marchDays ((5 * d + 2) / 153) + 1)

/-- The date in a month of a March year. -/
theorem marchDate_of_month {d i : Int} (y : Int) (hlo : marchDays i ≤ d) (hhi : d < marchDays (i + 1)) :
    marchDate y d = (y + (if marchMonth i ≤ 2 then 1 else 0), marchMonth i, d - marchDays i + 1) := by
  have hi : (5 * d + 2) / 153 = i := by
    unfold marchDays at hlo hhi
    omega
  rw [marchDate, hi]

/-- Each day of a March year lies in one of its twelve months. -/
theorem exists_month {y d : Int} (h0 : 0 ≤ d) (h : d < 365 + leapDay y) :
    ∃ i, 0 ≤ i ∧ i ≤ 11 ∧ marchDays i ≤ d ∧ d < marchDays (i + 1) := by
  have := leapDay_cases y
  refine ⟨(5 * d + 2) / 153, ?_⟩
  unfold marchDays
  omega

/-- The length of a month: February takes what is left of its year. -/
theorem daysInMonth_march {i : Int} (y : Int) (h0 : 0 ≤ i) (h11 : i ≤ 11) :
    daysInMonth (y + (if marchMonth i ≤ 2 then 1 else 0)) (marchMonth i) =
      (if i = 11 then 365 + leapDay y else marchDays (i + 1)) - marchDays i := by
  rcases (show i = 11 ∨ i ≤ 10 by omega) with rfl | h10
  · simp [marchMonth, daysInMonth, marchDays]
    unfold leapDay
    split <;> rfl
  · interval_cases i <;> simp [marchMonth, daysInMonth, marchDays]

/-- CIVIL is the date of the day in its March year; day 0 of the count is MJD -678881. An era is 400 March years. -/
theorem civil_eq_marchDate {n y d : Int} (hn : n + 678881 = marchStart y + d) (h0 : 0 ≤ d) (h : d < 365 + leapDay y) :
    civil n = marchDate y d := by
  have hstart : marchStart y = 146097 * (y / 400) + marchStart (y % 400) := by
    unfold marchStart
    omega
  have hnext : marchStart (y % 400) + d < marchStart (y % 400 + 1) := by
    have hsucc := marchStart_succ y
    have hstart' : marchStart (y + 1) = 146097 * (y / 400) + marchStart (y % 400 + 1) := by
      unfold marchStart
      omega
    omega
  have hera_days : 0 ≤ marchStart (y % 400) ∧ marchStart (y % 400 + 1) ≤ 146097 := by
    unfold marchStart
    omega
  have hyear := yearOfEra_eq (by omega) (by omega) h0 hnext
  have hera : (n - 40587 + 719468) / 146097 = y / 400 := by omega
  have hdoe : n - 40587 + 719468 - y / 400 * 146097 = marchStart (y % 400) + d := by omega
  have hcivil (era doe : Int) (he : (n - 40587 + 719468) / 146097 = era)
      (hd : n - 40587 + 719468 - era * 146097 = doe) :
      civil n = marchDate (yearOfEra doe + 400 * era)
        (doe - (365 * yearOfEra doe + yearOfEra doe / 4 - yearOfEra doe / 100)) := by
    subst he hd
    rfl
  rw [hcivil _ _ hera hdoe, hyear]
  congr 1
  · omega
  · unfold marchStart
    omega

section Next

variable {y d : Int}

/-- A day of a March year has a month and a day of the calendar. -/
theorem marchDate_valid (h0 : 0 ≤ d) (h : d < 365 + leapDay y) :
    1 ≤ (marchDate y d).2.1 ∧ (marchDate y d).2.1 ≤ 12 ∧ 1 ≤ (marchDate y d).2.2 ∧
      (marchDate y d).2.2 ≤ daysInMonth (marchDate y d).1 (marchDate y d).2.1 := by
  obtain ⟨i, hi0, hi11, hlo, hhi⟩ := exists_month h0 h
  rw [marchDate_of_month y hlo hhi]
  dsimp only
  rw [daysInMonth_march y hi0 hi11]
  refine ⟨?_, ?_, by omega, ?_⟩
  · unfold marchMonth
    omega
  · unfold marchMonth
    omega
  · split <;> omega

/-- The day after a day of a March year, in the same year. -/
theorem nextDay_same_year (h0 : 0 ≤ d) (h : d + 1 < 365 + leapDay y) : nextDay (marchDate y d) = marchDate y (d + 1) := by
  obtain ⟨i, hi0, hi11, hlo, hhi⟩ := exists_month h0 (show d < 365 + leapDay y by omega)
  rw [marchDate_of_month y hlo hhi, nextDay]
  dsimp only
  rw [daysInMonth_march y hi0 hi11]
  by_cases hsame : d + 1 < marchDays (i + 1)
  · rw [if_pos (by split <;> omega), marchDate_of_month y (by omega) hsame]
    congr 2
    omega
  · have hi : i ≤ 10 := by
      have := leapDay_cases y
      unfold marchDays at hsame
      omega
    have hfirst : d + 1 = marchDays (i + 1) := by omega
    rw [if_neg (by rw [if_neg (by omega)]; omega), hfirst,
      marchDate_of_month y le_rfl (by unfold marchDays; omega), Int.sub_self]
    interval_cases i <;> simp [marchMonth]

/-- The day after the last day of a March year. -/
theorem nextDay_last (h : d + 1 = 365 + leapDay y) : nextDay (marchDate y d) = marchDate (y + 1) 0 := by
  have hd : marchDays 11 ≤ d ∧ d < marchDays 12 := by
    have := leapDay_cases y
    unfold marchDays
    omega
  obtain ⟨hlo, hhi⟩ := hd
  rw [marchDate_of_month y hlo hhi, nextDay]
  dsimp only
  rw [daysInMonth_march y (by decide) (by decide), if_neg (by rw [if_pos rfl]; omega)]
  simp [marchMonth, marchDate, marchDays]

end Next

end Sys2Proof.Machine

open Sys2Proof Sys2Proof.Machine

/-- Settles O38: every day number is a day of a March year, and CIVIL and the next day go by its place in that year. -/
theorem civilIsTheGregorianCalendar : Obligations.CivilIsTheGregorianCalendar := by
  unfold Obligations.CivilIsTheGregorianCalendar
  refine ⟨by decide, fun n => ?_⟩
  obtain ⟨y, hlo, hhi⟩ := exists_marchYear (n + 678881)
  rw [marchStart_succ] at hhi
  obtain ⟨d, hd⟩ : ∃ d, n + 678881 = marchStart y + d := ⟨n + 678881 - marchStart y, by omega⟩
  have h0 : 0 ≤ d := by omega
  have h : d < 365 + leapDay y := by omega
  rw [civil_eq_marchDate hd h0 h]
  obtain ⟨hmonth, hmonth', hday, hday'⟩ := marchDate_valid h0 h
  refine ⟨hmonth, hmonth', hday, hday', ?_⟩
  by_cases hlast : d + 1 < 365 + leapDay y
  · rw [nextDay_same_year h0 hlast]
    exact civil_eq_marchDate (by omega) (by omega) hlast
  · rw [nextDay_last (by omega)]
    have := leapDay_cases (y + 1)
    exact civil_eq_marchDate (by rw [marchStart_succ]; omega) le_rfl (by omega)

end

section
/-! The clock record (43_group_types R119): the fields of a 4A group as numbers, and the record that they make. -/

namespace Sys2Proof.Machine

open Sys2Proof

variable {s : State} {g : GroupFields}

/-! ## The fields of a 4A group -/

theorem toNat_append_eq {m n : Nat} (a : BitVec m) (b : BitVec n) : (a ++ b).toNat = a.toNat * 2 ^ n + b.toNat := by
  rw [BitVec.toNat_append, ← Nat.shiftLeft_add_eq_or_of_lt b.isLt, Nat.shiftLeft_eq]

theorem ctMjd_toNat (g : GroupFields) :
    (ctMjd g).toNat = (g.x.extractLsb' 0 2).toNat * 2 ^ 15 + (g.b2.extractLsb' 1 15).toNat := toNat_append_eq _ _

theorem ctHour_toNat (g : GroupFields) :
    (ctHour g).toNat = (g.b2.getLsbD 0).toNat * 16 + (g.b3.extractLsb' 12 4).toNat := by
  have hbit : (g.b2.extractLsb' 0 1).toNat = (g.b2.getLsbD 0).toNat := by
    rw [BitVec.extractLsb'_toNat, Nat.shiftRight_zero, BitVec.getLsbD, Nat.testBit_zero]
    rcases Nat.mod_two_eq_zero_or_one g.b2.toNat with h | h <;> simp [h]
  rw [ctHour, toNat_append_eq, hbit]
  rfl

/-! ## The record -/

/-- The local time of the record is the rest of the local day, in hours and minutes. -/
theorem clockOf_local (mjd : BitVec 17) (hour : BitVec 5) (minute : BitVec 6) (off : Int) :
    let c := clockOf mjd hour minute off
    let tot : Int := mjd.toNat * 1440 + hour.toNat * 60 + minute.toNat + 30 * off
    0 ≤ c.lhour ∧ c.lhour < 24 ∧ 0 ≤ c.lminute ∧ c.lminute < 60 ∧
      tot = tot / 1440 * 1440 + c.lhour * 60 + c.lminute := by
  intro c tot
  have hhour : c.lhour = (tot - 1440 * (tot / 1440)) / 60 := rfl
  have hminute : c.lminute = (tot - 1440 * (tot / 1440)) % 60 := rfl
  rw [hhour, hminute]
  omega

/-- A complete group with its time in range writes the record and emits it. -/
theorem clockTime_set (h2 : g.f2 = true) (h3 : g.f3 = true) (hh : (ctHour g).toNat ≤ 23) (hm : (ctMinute g).toNat ≤ 59)
    (s : State) : clockTime g s =
      { s with
        st := { s.st with clock := some (clockOf (ctMjd g) (ctHour g) (ctMinute g) (ctOffset g)) }
        events := s.events ++ [⟨g.bt, .clock (clockOf (ctMjd g) (ctHour g) (ctMinute g) (ctOffset g))⟩] } := by
  rw [clockTime, if_pos (by simp [h2, h3]), if_neg (by omega)]
  rfl

/-- Any other group leaves the state alone. -/
theorem clockTime_skip
    (h : ¬ (g.f2 = true ∧ g.f3 = true ∧ (ctHour g).toNat ≤ 23 ∧ (ctMinute g).toNat ≤ 59)) (s : State) :
    clockTime g s = s := by
  unfold clockTime
  split
  · rename_i hvalid
    obtain ⟨h2, h3⟩ := Bool.and_eq_true_iff.mp hvalid
    refine if_pos ?_
    by_contra hrange
    exact h ⟨h2, h3, by omega, by omega⟩
  · rfl

end Sys2Proof.Machine

open Sys2Proof Sys2Proof.Machine

/-- Settles O37: the record is `clockOf` of the group's fields, whose numbers are those of the statement. -/
theorem type4AResult : Obligations.Type4AResult := by
  unfold Obligations.Type4AResult
  intro g s mjd hour minute off tot
  have hexec : exec (.group4A g) s = .next (clockTime g { s with st := counted 8 g s.st }) := rfl
  have hmjd : (ctMjd g).toNat = mjd := ctMjd_toNat g
  have hhour : (ctHour g).toNat = hour := ctHour_toNat g
  have htot : ((ctMjd g).toNat : Int) * 1440 + (ctHour g).toNat * 60 + (ctMinute g).toNat + 30 * ctOffset g = tot := by
    rw [hmjd, hhour]
    rfl
  rw [hexec]
  split
  · rename_i h
    obtain ⟨h2, h3, hh, hm⟩ := h
    have hlocal := clockOf_local (ctMjd g) (ctHour g) (ctMinute g) (ctOffset g)
    rw [htot] at hlocal
    obtain ⟨hh0, hh24, hm0, hm60, hsum⟩ := hlocal
    refine ⟨clockOf (ctMjd g) (ctHour g) (ctMinute g) (ctOffset g), hmjd, hhour, rfl, rfl, ?_, ?_, hh0, hh24, hm0, hm60,
      hsum, ?_⟩
    · rw [← hmjd]
      rfl
    · rw [← htot]
      rfl
    · rw [clockTime_set h2 h3 (hhour ▸ hh) hm]
  · rename_i h
    rw [clockTime_skip]
    rwa [hhour]

end

section
/-! Alert-C records (44_tmc R133 to R138): what a label row does to the pending message, and what DRAIN takes and leaves. -/

namespace Sys2Proof.Machine

open Sys2Proof

variable {s : State} {slot : Slot} {o : OdaSlot} {t : TmcInst} {m : TmcMsg}

/-! ## Label rows (R136 to R138) -/

/-- A row that changes the message runs on the pending one. -/
theorem exec_onMsg {i : Instr} {f : TmcMsg → TmcMsg} {m' : TmcMsg} (h : Holds s slot o t) (hm : t.msg = some m)
    (hi : exec i s = .next (updMsg slot f s)) (hf : f m = m') :
    exec i s = .next (withInstance s slot o { t with msg := some m' }) := by
  rw [hi, updMsg_holds h hm, hf]

/-- A row that leaves every message alone changes nothing, pending message or not. -/
theorem exec_onMsg_id {i : Instr} {f : TmcMsg → TmcMsg} (hi : exec i s = .next (updMsg slot f s)) (hf : ∀ m, f m = m) :
    exec i s = .next s := by
  rw [hi, updMsg_id f hf]

/-- An extent is a number modulo 32 (R137). -/
theorem extent_add (e : BitVec 5) (n : Nat) : e + BitVec.ofNat 5 n = BitVec.ofNat 5 ((e.toNat + n) % 32) := by
  apply BitVec.eq_of_toNat_eq
  simp [BitVec.toNat_add]

/-! ## The head of the queue (R135) -/

/-- A record that decodes has its row run on the message by DRAIN, whatever follows it in the queue. -/
theorem drain_decoded {bits : List Bool} {i : Instr} (h : decodeRecord slot bits = .ok i) (rest : List Bool)
    (m : TmcMsg) : drain slot (bits ++ rest) m = drain slot rest (applyLabel i m) := by
  obtain ⟨label, val, htake, rfl⟩ := decodeRecord_ok h
  exact drain_record (takeRecord_append htake rest) m

/-- A row that decodes from a record runs on the message as DRAIN runs it. -/
theorem exec_decoded {bits : List Bool} {i : Instr} (h : decodeRecord slot bits = .ok i) (s : State) :
    exec i s = .next (updMsg slot (applyLabel i) s) := by
  obtain ⟨label, val, -, rfl⟩ := decodeRecord_ok h
  exact labelRow_exec slot label val s

end Sys2Proof.Machine

open Sys2Proof Sys2Proof.Machine

/-- Settles O50: each label row is one function on the pending message, and the labels from 7 on are the identity. -/
theorem labelRowsResult : Obligations.LabelRowsResult := by
  unfold Obligations.LabelRowsResult
  intro s slot o t m v3 v5 v8 v11 v16 h hm result control
  have row {i : Instr} {f : TmcMsg → TmcMsg} {m' : TmcMsg} (hi : exec i s = .next (updMsg slot f s)) (hf : f m = m') :
      result i m' := exec_onMsg h hm hi hf
  have extent (n : Nat) : ({ m with ext := m.ext + BitVec.ofNat 5 n } : TmcMsg).counted =
      { m with ext := BitVec.ofNat 5 ((m.ext.toNat + n) % 32), nf := m.nf + 1 } := by
    rw [extent_add]
    rfl
  have controls : control 0 { m with urg := m.urg + 1 } ∧ control 1 { m with urg := m.urg - 1 } ∧
      control 2 { m with dirch := !m.dirch } ∧ control 3 { m with dynch := !m.dynch } ∧
      control 4 { m with spkch := !m.spkch } ∧ control 5 { m with div := true } ∧
      control 6 { m with ext := BitVec.ofNat 5 ((m.ext.toNat + 8) % 32) } ∧
      control 7 { m with ext := BitVec.ofNat 5 ((m.ext.toNat + 16) % 32) } :=
    ⟨row rfl rfl, row rfl rfl, row rfl rfl, row rfl rfl, row rfl rfl, row rfl rfl, row rfl (extent 8), row rfl (extent 16)⟩
  exact ⟨row rfl rfl, controls, row rfl rfl, row rfl rfl, row rfl rfl, row rfl rfl, row rfl rfl,
    exec_onMsg_id rfl fun _ => rfl, exec_onMsg_id rfl fun _ => rfl, exec_onMsg_id rfl fun _ => rfl,
    exec_onMsg_id rfl fun _ => rfl, exec_onMsg_id rfl fun _ => rfl, exec_onMsg_id rfl fun _ => rfl,
    exec_onMsg_id rfl fun _ => rfl, exec_onMsg_id rfl fun _ => rfl, exec_onMsg_id rfl fun _ => rfl⟩

/-- Settles O51: the row and DRAIN apply the same function to the message, and an incomplete record stops DRAIN. -/
theorem drainRunsTheRecordAtTheHead : Obligations.DrainRunsTheRecordAtTheHead := by
  unfold Obligations.DrainRunsTheRecordAtTheHead
  intro s slot o t m bits rest i h hm
  refine ⟨fun hd => ⟨applyLabel i m, ?_, drain_decoded hd rest m⟩, fun hrest => drain_stop (takeRecord_none.mpr hrest) m⟩
  exact exec_onMsg h hm (exec_decoded hd s) rfl

/-- Settles O52: DRAIN leaves an end of the queue without a complete record, and a continuation pushes 28 bits. -/
theorem queueBound : Obligations.QueueBound := by
  unfold Obligations.QueueBound
  constructor
  · intro slot q m rest
    obtain ⟨hsuffix, hincomplete⟩ := drain_rest slot q m
    exact ⟨hsuffix, takeRecord_none.mp hincomplete, length_of_incomplete hincomplete⟩
  · intro q a b hq
    rw [pushFree_length]
    omega

end

section
/-! The TMC forms on a slot that holds a TMC handler (44_tmc R129 to R132 and R139 to R141): SINGLE and FIRST, a continuation
that is accepted or broken, and TUNING with its variants. -/

namespace Sys2Proof.Machine

open Sys2Proof

variable {s : State} {slot : Slot} {o : OdaSlot} {t t' : TmcInst} {m : TmcMsg} {bt : BitTime}

/-! ## Forms on the state -/

/-- A form that completes no message writes its handler state. -/
theorem withInst_silent {f : TmcInst → TmcInst × Option TmcMsg} (h : Holds s slot o t) (hf : f t = (t', none)) :
    withInst slot bt f s = withInstance s slot o t' := by
  rw [withInst_holds h, hf]

/-- A form that completes a message writes its handler state and emits the message, resolved in LT. -/
theorem withInst_emits {f : TmcInst → TmcInst × Option TmcMsg} (h : Holds s slot o t) (hf : f t = (t', some m)) :
    withInst slot bt f s =
      { withInstance s slot o t' with tmcout := s.tmcout ++ [⟨bt, resolve s.params s.lt m⟩] } := by
  rw [withInst_holds h, hf]
  exact emitMsg_eq _ _ _

/-- Location resolution, field by field (R140). -/
theorem resolve_eq (p : Params) (lt : Memory) (m : TmcMsg) : resolve p lt m =
    { m with
      rloc := if (lt.read ⟨p.tmcCid, p.tmcLtn, m.loc⟩).isSome then some ⟨p.tmcCid, p.tmcLtn, m.loc⟩ else none
      rsec := if (lt.read ⟨p.tmcCid, p.tmcLtn, m.loc⟩).isSome then
          getOffset lt ⟨p.tmcCid, p.tmcLtn, m.loc⟩ m.ext.toNat (if m.dir then p.extentDir1 else p.extentDir0)
        else none } := by
  unfold resolve
  dsimp only
  cases hread : lt.read ⟨p.tmcCid, p.tmcLtn, m.loc⟩ <;> rfl

/-! ## Continuations (R131 and R132) -/

section Continuation

variable {ci : BitVec 3} {sg : Bool} {gsi : BitVec 2} {free12 : BitVec 12} {free16 : Word}

theorem exec_tmcSubsequent : exec (.tmcSubsequent slot ci sg gsi free12 free16 bt) s =
    .next (withInst slot bt (subsequentInst slot ci sg gsi free12 free16) s) := rfl

/-- A continuation without a pending message, or that fails a test of R131, leaves the handler state alone. -/
theorem subsequentInst_broken (h : t.msg = none ∨ ¬ contAccepted ci sg gsi t = true) :
    subsequentInst slot ci sg gsi free12 free16 t = (t, none) := by
  unfold subsequentInst
  split
  · rfl
  · rename_i hm
    exact if_neg (h.resolve_left (by simp [hm]))

/-- The last continuation completes the message that DRAIN leaves and clears the pending state. -/
theorem subsequentInst_last (hm : t.msg = some m) (ha : contAccepted ci sg gsi t = true) (hg : gsi = 0) :
    subsequentInst slot ci sg gsi free12 free16 t =
      ({ t with msg := none, ci := none, next := none, total := none, q := [] },
        some (drain slot (pushFree t.q free12 free16) m).1) := by
  simp only [subsequentInst, hm, if_pos ha, if_pos hg]

/-- Any other continuation drains and expects the next one. -/
theorem subsequentInst_waiting {n : Nat} (hm : t.msg = some m) (ha : contAccepted ci sg gsi t = true) (hg : ¬ gsi = 0)
    (hn : t.next = some n) :
    subsequentInst slot ci sg gsi free12 free16 t =
      ({ t with
          msg := some (drain slot (pushFree t.q free12 free16) m).1
          next := some (n + 1)
          total := if sg then some (gsi.toNat + 2) else t.total
          q := (drain slot (pushFree t.q free12 free16) m).2 }, none) := by
  simp only [subsequentInst, hm, if_pos ha, if_neg hg, hn, Option.map_some]

end Continuation

/-! ## Tuning information (R141) -/

/-- A tuning row that changes nothing of any handler state changes nothing at all. -/
theorem exec_onInst_id {i : Instr} {f : TmcInst → TmcInst} (hi : exec i s = .next (updInst slot f s))
    (hf : ∀ t, f t = t) : exec i s = .next s := by
  rw [hi, updInst_id f hf]

section Onaf

variable {pi : Word} {tr : FreqTriple}

/-- The triple goes to an entry that is there, of which the last 16 triples stay. -/
theorem onafPut_found {e : OnafEntry} (h : tabFind OnafEntry.pi pi t.onaf = some e) : onafPut pi tr t =
    { t with onaf := tabPut OnafEntry.pi ⟨pi, (e.triples ++ [tr]).drop (e.triples.length + 1 - 16)⟩ t.onaf } := by
  have hpi : e.pi = pi := tabFind_key h
  simp only [onafPut, h, hpi, lastN, List.length_append, List.length_singleton]
  rfl

theorem onafPut_created (h : tabFind OnafEntry.pi pi t.onaf = none) (hroom : t.onaf.length < 32) :
    onafPut pi tr t = { t with onaf := tabPut OnafEntry.pi ⟨pi, [tr]⟩ t.onaf } := by
  simp only [onafPut, h]
  exact if_pos hroom

theorem onafPut_refused (h : tabFind OnafEntry.pi pi t.onaf = none) (hfull : ¬ t.onaf.length < 32) :
    onafPut pi tr t = t := by
  simp only [onafPut, h]
  exact if_neg hfull

/-- The entry of a PI(ON) after one more triple: the one that is there, a new one if the table has room, or none. -/
def onafEntry (pi : Word) (tr : FreqTriple) (onaf : List OnafEntry) : Option OnafEntry :=
  match tabFind OnafEntry.pi pi onaf with
  | some e => some ⟨pi, (e.triples ++ [tr]).drop (e.triples.length + 1 - 16)⟩
  | none => if onaf.length < 32 then some ⟨pi, [tr]⟩ else none

/-- One more triple changes the entry of its PI(ON) and nothing else of the handler state. -/
theorem onafPut_table (pi : Word) (tr : FreqTriple) (t : TmcInst) :
    ∃ table, onafPut pi tr t = { t with onaf := table } ∧
      (∀ q, q ≠ pi → tabFind OnafEntry.pi q table = tabFind OnafEntry.pi q t.onaf) ∧
      tabFind OnafEntry.pi pi table = onafEntry pi tr t.onaf := by
  have written (e : OnafEntry) (he : e.pi = pi) :
      (∀ q, q ≠ pi → tabFind OnafEntry.pi q (tabPut OnafEntry.pi e t.onaf) = tabFind OnafEntry.pi q t.onaf) ∧
        tabFind OnafEntry.pi pi (tabPut OnafEntry.pi e t.onaf) = some e :=
    ⟨fun q hq => by rw [tabFind_tabPut, if_neg (he ▸ hq)], by rw [tabFind_tabPut, if_pos he.symm]⟩
  unfold onafEntry
  cases hfind : tabFind OnafEntry.pi pi t.onaf with
  | some e => exact ⟨_, onafPut_found hfind, written _ rfl⟩
  | none =>
    by_cases hroom : t.onaf.length < 32
    · rw [if_pos hroom]
      exact ⟨_, onafPut_created hfind hroom, written _ rfl⟩
    · rw [if_neg hroom]
      exact ⟨_, onafPut_refused hfind hroom, fun _ _ => rfl, hfind⟩

end Onaf

end Sys2Proof.Machine

open Sys2Proof Sys2Proof.Machine

/-- Settles O45: the form writes back the handler state it found, and the message it completes is resolved in LT. -/
theorem tmcSingleResult : Obligations.TmcSingleResult := by
  unfold Obligations.TmcSingleResult
  intro s slot o t dp div dir ext evt loc bt h k found
  have hexec : exec (.tmcSingle slot dp div dir ext evt loc bt) s =
      .next (withInst slot bt (fun t => (t, some { newMsg true dir ext evt loc with dp := some dp, div := div })) s) := rfl
  have hext : (ext.setWidth 5).toNat = ext.toNat := BitVec.toNat_setWidth_of_le (by decide)
  rw [hexec, withInst_emits h rfl, withInstance_self h, resolve_eq]
  simp only [newMsg, hext]
  rfl

/-- Settles O46: FIRST writes its handler state and completes no message. -/
theorem tmcFirstResult : Obligations.TmcFirstResult := by
  unfold Obligations.TmcFirstResult
  intro s slot o t ci dir ext evt loc h
  have hexec : exec (.tmcFirst slot ci dir ext evt loc) s = .next (updInst slot (firstInst ci dir ext evt loc) s) := rfl
  rw [hexec, updInst_holds h]
  rfl

/-- Settles O47: the tests of R131 pass, and GSI tells the last continuation from the others. -/
theorem tmcContinuationAccepted : Obligations.TmcContinuationAccepted := by
  unfold Obligations.TmcContinuationAccepted
  intro s slot o t m n ci sg gsi free12 free16 bt h hm hci hn hseq d k found
  have ha : contAccepted ci sg gsi t = true := by
    refine contAccepted_iff.mpr ⟨hci, ?_⟩
    obtain ⟨hsg, rfl⟩ | ⟨hsg, total, ht, hs⟩ := hseq
    · exact .inl ⟨hsg, hn⟩
    · exact .inr ⟨hsg, n, total, hn, ht, hs⟩
  rw [exec_tmcSubsequent]
  split
  · rename_i hg
    rw [withInst_emits h (subsequentInst_last hm ha hg), resolve_eq]
    rfl
  · rename_i hg
    rw [withInst_silent h (subsequentInst_waiting hm ha hg hn)]
    rfl

/-- Settles O48: each way to be broken contradicts the tests of R131. -/
theorem brokenContinuationChangesNothing : Obligations.BrokenContinuationChangesNothing := by
  unfold Obligations.BrokenContinuationChangesNothing
  intro s slot o t ci sg gsi free12 free16 bt h hbroken
  have hb : t.msg = none ∨ ¬ contAccepted ci sg gsi t = true := by
    refine hbroken.imp_right fun hfails ha => ?_
    obtain ⟨hci, ⟨hsg, hn⟩ | ⟨hsg, n, total, hn, ht, hs⟩⟩ := contAccepted_iff.mp ha
    · rcases hfails with hci' | ⟨hsg', -⟩ | ⟨-, hn'⟩ | ⟨hsg', -⟩
      · exact hci' hci
      · simp [hsg] at hsg'
      · exact hn' hn
      · simp [hsg] at hsg'
    · rcases hfails with hci' | ⟨-, ht'⟩ | ⟨hsg', -⟩ | ⟨-, total', ht', hs'⟩
      · exact hci' hci
      · simp [ht] at ht'
      · simp [hsg] at hsg'
      · obtain rfl : total = total' := Option.some.inj (ht.symm.trans ht')
        exact hs' n hn hs
  rw [exec_tmcSubsequent, withInst_silent h (subsequentInst_broken hb), withInstance_self h]

/-- Settles O49: TUNING runs the row that its variant decodes to; 6 and 7 find, create or refuse the ONAF entry. -/
theorem tmcTuningResults : Obligations.TmcTuningResults := by
  unfold Obligations.TmcTuningResults
  intro s slot o t b2 b3 h c0 c1 c2 c3 onaf
  have hdispatch (n : BitVec 4) : ∃ v u, decode (.tuning slot n b2 b3) = .ok v ∧ exec v s = .next u ∧
      exec (.tmcTuning slot n b2 b3) s = .next u := ⟨_, _, rfl, runTuning_exec slot n b2 b3 s, rfl⟩
  have hprov {i : Instr} {upper : Bool} (hi : exec i s = .next (updInst slot (provPut upper b2 b3) s)) :
      exec i s = .next (withInstance s slot o (provPut upper b2 b3 t)) := by
    rw [hi, updInst_holds h]
  have honaf {n : BitVec 4} {i : Instr}
      (hi : exec i s = .next (updInst slot (onafPut b3 ⟨n, hiByte b2, loByte b2⟩) s)) : onaf n i := by
    obtain ⟨table, hput, hother, hentry⟩ := onafPut_table b3 ⟨n, hiByte b2, loByte b2⟩ t
    rw [updInst_holds h, hput] at hi
    exact ⟨table, hi, hother, hentry⟩
  exact ⟨hdispatch, hprov (upper := false) rfl, hprov (upper := true) rfl, honaf rfl, honaf rfl,
    exec_onInst_id rfl fun _ => rfl, exec_onInst_id rfl fun _ => rfl, exec_onInst_id rfl fun _ => rfl,
    exec_onInst_id rfl fun _ => rfl, exec_onInst_id rfl fun _ => rfl, exec_onInst_id rfl fun _ => rfl,
    exec_onInst_id rfl fun _ => rfl, exec_onInst_id rfl fun _ => rfl, exec_onInst_id rfl fun _ => rfl,
    exec_onInst_id rfl fun _ => rfl, exec_onInst_id rfl fun _ => rfl, exec_onInst_id rfl fun _ => rfl⟩

end

section
/-! The location walker on any table (45_location R143 to R149): PARENT and the chain as the parent path, the offset walk,
GETENCLOSING, the two sides of WALK, and COMPARE branch by branch. -/

namespace Sys2Proof.Machine

open Sys2Proof

variable {m : Memory} {k : LocKey} {r : LocRecord}

/-! ## PARENT (R143) -/

theorem parent_missing (h : m.read k = none) : parent m k = none := by
  simp [parent, h]

theorem parent_present (h : m.read k = some r) : parent m k = parentOf m r := by
  simp [parent, h]

theorem parent_some {p : LocKey} (h : parent m k = some p) : ∃ r, m.read k = some r ∧ parentOf m r = some p := by
  cases hr : m.read k with
  | none => rw [parent_missing hr] at h; cases h
  | some r => exact ⟨r, rfl, by rw [← parent_present hr, h]⟩

theorem parent_inTable {p : LocKey} (h : parent m k = some p) : p.cid = k.cid ∧ p.tabcd = k.tabcd := by
  obtain ⟨r, hr, hp⟩ := parent_some h
  rw [← (Memory.read_some hr).2]
  exact parentOf_inTable hp

theorem firstKey_eq (a b : Option LocKey) : firstKey a b = if a.isSome then a else b := by
  cases a <;> rfl

/-- The parent of a segment with a parent segment is that segment. -/
theorem parent_pseg {p : LocKey} (h : m.read k = some r) (hk : r.kind = .segment) (hp : m.follow r.pseg = some p) :
    parent m k = some p := by
  simp [parent_present h, parentOf, hk, firstKey, hp]

/-! ## The chain (R144) -/

/-- A chain of at least one key begins with a key LT holds, and goes on with the chain of that key's parent. -/
theorem chainFrom_cons {room : Nat} {start : Option LocKey} {x : LocKey} {c : List LocKey}
    (h : chainFrom m room start = some (x :: c)) :
    start = some x ∧ (m.read x).isSome ∧ ∃ room', room = room' + 1 ∧ chainFrom m room' (parent m x) = some c := by
  cases start with
  | none => simp [chainFrom] at h
  | some k =>
    cases hr : m.read k with
    | none => simp [chainFrom_missing room hr] at h
    | some r =>
      rw [chainFrom_present room hr] at h
      cases room with
      | zero => cases h
      | succ room =>
        obtain ⟨c', hc, hx⟩ := Option.map_eq_some_iff.mp h
        cases hx
        exact ⟨rfl, by simp [hr], room, rfl, by rw [parent_present hr, hc]⟩

/-- A chain is empty exactly when there is no record to begin with. -/
theorem chainFrom_eq_nil {room : Nat} {start : Option LocKey} {c : List LocKey} (h : chainFrom m room start = some c) :
    c = [] ↔ start.bind m.read = none := by
  cases c with
  | nil =>
    refine iff_of_true rfl ?_
    cases start with
    | none => rfl
    | some k =>
      cases hr : m.read k with
      | none => exact hr
      | some r => rw [chainFrom_present room hr] at h; cases room <;> simp at h
  | cons x c =>
    obtain ⟨rfl, hx, -⟩ := chainFrom_cons h
    exact iff_of_false (by simp) (by simpa [Option.isSome_iff_ne_none] using hx)

/-- A chain ends at a key without a parent: a parent is always a key LT holds. -/
theorem parent_eq_none_of_chainFrom_nil {room : Nat} (h : chainFrom m room (parent m k) = some []) :
    parent m k = none := by
  cases hp : parent m k with
  | none => rfl
  | some p =>
    obtain ⟨r, -, hr⟩ := parent_some hp
    have hnone : m.read p = none := by simpa [hp] using (chainFrom_eq_nil h).mp rfl
    simpa [hnone] using parentOf_isSome hr

/-- A chain has at most as many keys as it is allowed, each the parent of the one before, and the last has none. -/
theorem chainFrom_path {c : List LocKey} : ∀ {room : Nat} {start : Option LocKey}, chainFrom m room start = some c →
    c.length ≤ room ∧ c.IsChain (fun a b => parent m a = some b) ∧ ∀ x, c.getLast? = some x → parent m x = none := by
  induction c with
  | nil => simp
  | cons x c ih =>
    intro room start h
    obtain ⟨-, -, room, rfl, hc⟩ := chainFrom_cons h
    obtain ⟨hlen, hchain, hlast⟩ := ih hc
    refine ⟨Nat.succ_le_succ hlen, ?_⟩
    cases c with
    | nil => exact ⟨List.isChain_singleton x, by simpa using parent_eq_none_of_chainFrom_nil hc⟩
    | cons y c => exact ⟨List.isChain_cons_cons.mpr ⟨(chainFrom_cons hc).1, hchain⟩, by simpa using hlast⟩

/-- The rest of a chain from one of its keys on is that key's own chain. -/
theorem chainFrom_suffix {post : List LocKey} : ∀ {pre : List LocKey} {room : Nat} {start : Option LocKey},
    chainFrom m room start = some (pre ++ k :: post) → ∃ room', chainFrom m room' (some k) = some (k :: post) := by
  intro pre
  induction pre with
  | nil => intro room start h; obtain ⟨rfl, -⟩ := chainFrom_cons h; exact ⟨room, h⟩
  | cons x pre ih => intro room start h; obtain ⟨-, -, room', -, hc⟩ := chainFrom_cons h; exact ih hc

/-- A chain does not repeat: from both places of a repeated key it would go on alike, so for different lengths. -/
theorem chainFrom_nodup {c : List LocKey} : ∀ {room : Nat} {start : Option LocKey}, chainFrom m room start = some c →
    c.Nodup := by
  induction c with
  | nil => simp
  | cons x c ih =>
    intro room start h
    obtain ⟨rfl, -, room', -, hc⟩ := chainFrom_cons h
    refine List.nodup_cons.mpr ⟨fun hmem => ?_, ih hc⟩
    obtain ⟨pre, post, rfl⟩ := List.append_of_mem hmem
    obtain ⟨room'', hx⟩ := chainFrom_suffix hc
    have hlen := congrArg List.length (chainFrom_det h hx)
    simp only [List.length_cons, List.length_append] at hlen
    omega

/-! ## The offset walk (R145) -/

/-- An offset walk takes all its steps, or as many as the chain has. -/
theorem offsetWalk_reachIn (dir : Dir) : ∀ (extent : Nat) (k : LocKey), ∃ n ≤ extent,
    reachIn m dir n k (offsetWalk m dir extent k) ∧ (n = extent ∨ neighbour m dir (offsetWalk m dir extent k) = none) := by
  intro extent
  induction extent with
  | zero => exact fun k => ⟨0, le_rfl, rfl, .inl rfl⟩
  | succ extent ih =>
    intro k
    cases hn : neighbour m dir k with
    | none => exact ⟨0, Nat.zero_le _, by simp [offsetWalk, hn, reachIn], .inr (by simp [offsetWalk, hn])⟩
    | some nx =>
      obtain ⟨n, hle, hreach, hend⟩ := ih nx
      have hwalk : offsetWalk m dir (extent + 1) k = offsetWalk m dir extent nx := by simp [offsetWalk, hn]
      rw [hwalk]
      exact ⟨n + 1, Nat.succ_le_succ hle, ⟨nx, hn, hreach⟩, hend.imp_left (congrArg (· + 1))⟩

/-- From a key LT holds, an offset walk reaches only keys that LT holds. -/
theorem reachIn_isSome {dir : Dir} {b : LocKey} : ∀ {n : Nat} {a : LocKey}, reachIn m dir n a b → (m.read a).isSome →
    (m.read b).isSome := by
  intro n
  induction n with
  | zero => rintro a ⟨⟩ h; exact h
  | succ n ih => rintro a ⟨c, hc, hb⟩ -; exact ih hb (neighbour_isSome hc)

/-! ## The commands once accepted (R149) -/

section Accepted

variable {s : State} (hh : s.halted = false)

include hh

theorem execLocOffset_runs (dir : Dir) (k : LocKey) (extent : BitVec 32) :
    exec (.locOffset dir k extent) s = .next (s.setReply (.key (getOffset s.lt k extent.toNat dir))) := unlessHalted_runs hh

theorem execLocEnclosing_runs (self : LocKey) (sec : Option LocKey) :
    exec (.locEnclosing self sec) s = .next (queryReturn .key (getEnclosing s.lt self sec) s) := unlessHalted_runs hh

theorem execLocCompare_runs (neg : Bool) (lhs rhs : LocKey) :
    exec (.locCompare neg lhs rhs) s = .next (queryReturn .order (compareFrom s.lt neg s.lt.length lhs rhs) s) :=
  unlessHalted_runs hh

end Accepted

theorem queryReturn_some {α : Type} {wrap : α → Reply} {o : Option α} {v : α} (s : State) (h : o = some v) :
    queryReturn wrap o s = { s with reply := wrap v } := by
  subst h; rfl

theorem queryReturn_none {α : Type} {wrap : α → Reply} {o : Option α} (s : State) (h : o = none) :
    queryReturn wrap o s = { s with fault := { s.fault with ltCycle := true }, reply := .fault .ltCycle } := by
  subst h; rfl

/-! ## GETENCLOSING (R146) -/

section Enclosing

variable {self sec : LocKey} {a b : List LocKey}

theorem getEnclosing_self (m : Memory) (self : LocKey) : getEnclosing m self (some self) = some (some self) := by
  simp [getEnclosing]

theorem getEnclosing_chains (hne : sec ≠ self) (ha : chain m self = some a) (hb : chain m sec = some b) :
    getEnclosing m self (some sec) = some (a.find? fun k => b.contains k) := by
  simp [getEnclosing, hne, ha, hb]

theorem getEnclosing_fault (hne : sec ≠ self) (h : chain m self = none ∨ chain m sec = none) :
    getEnclosing m self (some sec) = none := by
  rcases h with h | h
  · simp [getEnclosing, hne, h]
  · cases ha : chain m self <;> simp [getEnclosing, hne, ha, h]

end Enclosing

/-! ## WALK (R148) -/

/-- The end of one side of a walk reaches `rhs` in one or more further steps. -/
def SideReaches (m : Memory) (dir : Dir) (side : Option LocKey) (rhs : LocKey) : Prop :=
  ∃ a n, side = some a ∧ 0 < n ∧ reachIn m dir n a rhs

theorem sideReaches_some {dir : Dir} {a rhs : LocKey} :
    SideReaches m dir (some a) rhs ↔ ∃ n, 0 < n ∧ reachIn m dir n a rhs :=
  ⟨fun ⟨_, n, ha, hn⟩ => ⟨n, by cases ha; exact hn⟩, fun ⟨n, hn⟩ => ⟨a, n, rfl, hn⟩⟩

theorem not_sideReaches_none {dir : Dir} {rhs : LocKey} : ¬ SideReaches m dir none rhs := by
  rintro ⟨a, n, ha, -⟩
  cases ha

/-- A side reaches `rhs` in its next step or further on. -/
theorem sideReaches_iff {dir : Dir} {side : Option LocKey} {rhs : LocKey} :
    SideReaches m dir side rhs ↔ walkSide m dir side = some rhs ∨ SideReaches m dir (walkSide m dir side) rhs := by
  constructor
  · rintro ⟨a, n, rfl, hpos, hn⟩
    obtain ⟨n, rfl⟩ := Nat.exists_eq_add_one.mpr hpos
    obtain ⟨c, hc, hn⟩ := hn
    have hside : walkSide m dir (some a) = some c := hc
    cases n with
    | zero => cases hn; exact .inl hside
    | succ n => exact .inr ⟨c, n + 1, hside, Nat.succ_pos n, hn⟩
  · intro h
    cases side with
    | none => exact h.elim nofun fun h => absurd h not_sideReaches_none
    | some a =>
      rcases h with h | ⟨c, n, hc, -, hn⟩
      · exact ⟨a, 1, rfl, Nat.one_pos, rhs, h, rfl⟩
      · exact ⟨a, n + 1, rfl, Nat.succ_pos n, c, hc, hn⟩

theorem walkFrom_ended {rhs : LocKey} {room : Nat} {e : WalkEnds} (h : e.ahead = none ∧ e.behind = none) :
    walkFrom m rhs room e = some 0 := by
  rw [walkFrom.eq_def]
  exact if_pos h

theorem walkFrom_zero {rhs : LocKey} {e : WalkEnds} (h : ¬ (e.ahead = none ∧ e.behind = none)) :
    walkFrom m rhs 0 e = none := by
  rw [walkFrom.eq_def]
  exact if_neg h

theorem walkFrom_succ {rhs : LocKey} {room : Nat} {e : WalkEnds} (h : ¬ (e.ahead = none ∧ e.behind = none)) :
    walkFrom m rhs (room + 1) e =
      if walkSide m .pos e.ahead = some rhs then some (-1)
      else if walkSide m .neg e.behind = some rhs then some 1
      else walkFrom m rhs room ⟨walkSide m .pos e.ahead, walkSide m .neg e.behind⟩ := by
  rw [walkFrom.eq_def]
  exact if_neg h

/-- What an answer of a walk says of the two sides that it walks. -/
def AnswersSide (m : Memory) (rhs : LocKey) (e : WalkEnds) (w : Int) : Prop :=
  (w = -1 ∧ SideReaches m .pos e.ahead rhs) ∨ (w = 1 ∧ SideReaches m .neg e.behind rhs) ∨
    (w = 0 ∧ ¬ SideReaches m .pos e.ahead rhs ∧ ¬ SideReaches m .neg e.behind rhs)

theorem answersSide_ended {rhs : LocKey} {e : WalkEnds} (h : e.ahead = none ∧ e.behind = none) :
    AnswersSide m rhs e 0 :=
  .inr (.inr ⟨rfl, h.1 ▸ not_sideReaches_none, h.2 ▸ not_sideReaches_none⟩)

/-- A round that reaches `rhs` on neither side leaves the answer to the rounds after it. -/
theorem answersSide_step {rhs : LocKey} {e : WalkEnds} {w : Int} (hp : walkSide m .pos e.ahead ≠ some rhs)
    (hq : walkSide m .neg e.behind ≠ some rhs) :
    AnswersSide m rhs e w ↔ AnswersSide m rhs ⟨walkSide m .pos e.ahead, walkSide m .neg e.behind⟩ w := by
  unfold AnswersSide
  rw [sideReaches_iff (side := e.ahead), sideReaches_iff (side := e.behind), or_iff_right hp, or_iff_right hq]

theorem walkFrom_answersSide {rhs : LocKey} {w : Int} : ∀ {room : Nat} {e : WalkEnds},
    walkFrom m rhs room e = some w → AnswersSide m rhs e w := by
  intro room e h
  by_cases hend : e.ahead = none ∧ e.behind = none
  · rw [walkFrom_ended hend] at h
    cases h
    exact answersSide_ended hend
  cases room with
  | zero => rw [walkFrom_zero hend] at h; cases h
  | succ room =>
    rw [walkFrom_succ hend] at h
    split_ifs at h with hp hq
    · cases h
      exact .inl ⟨rfl, sideReaches_iff.mpr (.inl hp)⟩
    · cases h
      exact .inr (.inl ⟨rfl, sideReaches_iff.mpr (.inl hq)⟩)
    · exact (answersSide_step hp hq).mpr (walkFrom_answersSide h)

/-! ## COMPARE (R147) -/

section Compare

variable {neg : Bool} {room : Nat} {lhs rhs : LocKey} {a b : LocRecord} {cl cr : List LocKey}

theorem compareWalk_walked (hab : a.kind = b.kind) (hk : a.kind = .point ∨ a.kind = .segment) :
    compareWalk m lhs rhs a b = walk m lhs rhs := if_pos ⟨hab, hk⟩

theorem compareWalk_unwalked (h : a.kind ≠ b.kind ∨ a.kind = .road ∨ a.kind = .area) :
    compareWalk m lhs rhs a b = some 0 := by
  refine if_neg fun ⟨hab, hk⟩ => ?_
  rcases h with h | h | h
  · exact h hab
  · simp [h] at hk
  · simp [h] at hk

theorem compareParents_recurse {pa pb : LocKey} (ha : a.kind = .segment) (hb : b.kind = .segment)
    (hpa : m.follow a.pseg = some pa) (hpb : m.follow b.pseg = some pb) : compareParents m a b = .recurse pa pb := by
  simp [compareParents, ha, hb, hpa, hpb]

/-- Without two segments that both have a parent segment the last line of COMPARE gives 0. -/
theorem compareParents_answer
    (h : a.kind ≠ .segment ∨ b.kind ≠ .segment ∨ m.follow a.pseg = none ∨ m.follow b.pseg = none) :
    compareParents m a b = .answer 0 := by
  unfold compareParents
  split
  · rename_i hk
    split
    · simp_all
    · rfl
  · rfl

/-- Records of different kinds, roads and areas are not two segments. -/
theorem compareParents_unwalked (h : a.kind ≠ b.kind ∨ a.kind = .road ∨ a.kind = .area) :
    compareParents m a b = .answer 0 := by
  refine if_neg fun ⟨ha, hb⟩ => ?_
  simp [ha, hb] at h

/-- Only two segments recurse, on their parent segments. -/
theorem compareParents_eq_recurse {pa pb : LocKey} (h : compareParents m a b = .recurse pa pb) :
    a.kind = .segment ∧ m.follow a.pseg = some pa := by
  unfold compareParents at h
  split at h
  · rename_i hk
    split at h
    · rename_i hpa hpb; cases h; exact ⟨hk.1, hpa⟩
    · cases h
  · cases h

/-! ### The branches of a round, in their order -/

theorem compareRecords_rhsFault (hr : chain m rhs = none) : compareRecords m neg lhs rhs a b = none := by
  simp [compareRecords, ancestors, hr]

theorem compareRecords_lhsAncestor (hr : chain m rhs = some cr) (h : lhs ∈ cr.tail) :
    compareRecords m neg lhs rhs a b = some (.answer (-1)) := by
  simp [compareRecords, ancestors, hr, h]

theorem compareRecords_lhsFault (hr : chain m rhs = some cr) (h : lhs ∉ cr.tail) (hl : chain m lhs = none) :
    compareRecords m neg lhs rhs a b = none := by
  simp [compareRecords, ancestors, hr, h, hl]

theorem compareRecords_rhsAncestor (hr : chain m rhs = some cr) (h : lhs ∉ cr.tail) (hl : chain m lhs = some cl)
    (h' : rhs ∈ cl.tail) : compareRecords m neg lhs rhs a b = some (.answer 1) := by
  simp [compareRecords, ancestors, hr, h, hl, h']

/-- The end of a round that the ancestor tests leave open. -/
theorem compareRecords_unrelated (hr : chain m rhs = some cr) (h : lhs ∉ cr.tail) (hl : chain m lhs = some cl)
    (h' : rhs ∉ cl.tail) : compareRecords m neg lhs rhs a b =
      (compareWalk m lhs rhs a b).map fun w => if w ≠ 0 then .answer (if neg then -w else w) else compareParents m a b := by
  simp only [compareRecords, ancestors, hr, hl, Option.map_some, List.contains_iff_mem, h, h', if_false]
  cases compareWalk m lhs rhs a b with
  | none => rfl
  | some w => exact (apply_ite some _ _ _).symm

/-- On chains that do not fault a round is settled by them, or ends as the walk says. -/
theorem compareRecords_cases (hr : chain m rhs = some cr) (hl : chain m lhs = some cl) :
    (∃ v, compareRecords m neg lhs rhs a b = some (.answer v)) ∨ compareRecords m neg lhs rhs a b =
      (compareWalk m lhs rhs a b).map fun w => if w ≠ 0 then .answer (if neg then -w else w) else compareParents m a b := by
  by_cases h : lhs ∈ cr.tail
  · exact .inl ⟨_, compareRecords_lhsAncestor hr h⟩
  by_cases h' : rhs ∈ cl.tail
  · exact .inl ⟨_, compareRecords_rhsAncestor hr h hl h'⟩
  exact .inr (compareRecords_unrelated hr h hl h')

theorem compareRound_trivial (h : lhs = rhs ∨ m.read lhs = none ∨ m.read rhs = none) :
    compareRound m neg lhs rhs = some (.answer 0) := by
  unfold compareRound
  split
  · rfl
  · split
    · simp_all
    · rfl

theorem compareRound_records (hne : lhs ≠ rhs) (ha : m.read lhs = some a) (hb : m.read rhs = some b) :
    compareRound m neg lhs rhs = compareRecords m neg lhs rhs a b := by
  simp [compareRound, hne, ha, hb]

/-! ### The rounds -/

theorem compareFrom_fault (h : compareRound m neg lhs rhs = none) : compareFrom m neg room lhs rhs = none := by
  rw [compareFrom.eq_def]
  simp only [h]

theorem compareFrom_answer {v : Int} (h : compareRound m neg lhs rhs = some (.answer v)) :
    compareFrom m neg room lhs rhs = some v := by
  rw [compareFrom.eq_def]
  simp only [h]

theorem compareFrom_recurse_zero {pa pb : LocKey} (h : compareRound m neg lhs rhs = some (.recurse pa pb)) :
    compareFrom m neg 0 lhs rhs = none := by
  rw [compareFrom.eq_def]
  simp only [h]

theorem compareFrom_recurse_succ {pa pb : LocKey} (h : compareRound m neg lhs rhs = some (.recurse pa pb)) :
    compareFrom m neg (room + 1) lhs rhs = compareFrom m neg room pa pb := by
  rw [compareFrom.eq_def]
  simp only [h]

end Compare

end Sys2Proof.Machine

open Sys2Proof Sys2Proof.Machine

/-- Settles O54: a chain is taken apart key by key, and two chains of one key are the same. -/
theorem chainIsTheParentPath : Obligations.ChainIsTheParentPath := by
  unfold Obligations.ChainIsTheParentPath
  refine ⟨fun m k => parent_missing, fun m k r hr => ?_, fun m k p => parent_inTable, fun m k c hc => ?_⟩
  · rw [parent_present hr]
    unfold parentOf
    cases r.kind
    case segment => exact firstKey_eq _ _
    case point => exact firstKey_eq _ _
    case road => rfl
    case area => rfl
  · obtain ⟨hlen, hpath, hlast⟩ := chainFrom_path hc
    refine ⟨chainFrom_eq_nil hc, fun x hx => ?_, hpath, hlast, chainFrom_nodup hc, hlen⟩
    obtain ⟨c, rfl⟩ := List.head?_eq_some_iff.mp hx
    exact (Option.some.inj (chainFrom_cons hc).1).symm

/-- Settles O55: the offset walk reaches its key in `extent` steps, or in as many as its chain has. -/
theorem locOffsetResult : Obligations.LocOffsetResult := by
  unfold Obligations.LocOffsetResult
  intro s dir key extent hh
  rw [execLocOffset_runs hh]
  refine ⟨fun hr => by simp [getOffset, hr, State.setReply], fun r hr => ?_⟩
  obtain ⟨n, hle, hreach, hend⟩ := offsetWalk_reachIn (m := s.lt) dir extent.toNat key
  exact ⟨_, n, by simp [getOffset, hr, State.setReply], hreach, hle, hend, reachIn_isSome hreach (by simp [hr])⟩

/-- Settles O56: with both chains GETENCLOSING is a search for the first key of one in the other. -/
theorem locEnclosingResult : Obligations.LocEnclosingResult := by
  unfold Obligations.LocEnclosingResult
  intro s self sec hh
  simp only [execLocEnclosing_runs hh]
  refine ⟨rfl, by rw [queryReturn_some s (getEnclosing_self s.lt self)],
    fun hne => ⟨fun a b ha hb => ?_, fun hfault => ?_⟩⟩
  · refine ⟨_, by rw [queryReturn_some s (getEnclosing_chains hne ha hb)], by simp [List.find?_eq_none], fun k hk => ?_⟩
    obtain ⟨hkb, pre, post, ha, hpre⟩ := List.find?_eq_some_iff_append.mp hk
    exact ⟨pre, post, ha, by simpa using hkb, by simpa using hpre⟩
  · rw [queryReturn_none s (getEnclosing_fault hne hfault)]

/-- Settles O57: each branch of a round of COMPARE, and what its outcome makes of a call. -/
theorem locCompareResult : Obligations.LocCompareResult := by
  unfold Obligations.LocCompareResult
  constructor
  · intro s neg lhs rhs hh
    rw [execLocCompare_runs hh]
    exact ⟨fun r h => by rw [queryReturn_some s h], fun h => by rw [queryReturn_none s h]⟩
  intro m neg allowed lhs rhs answers faults
  refine ⟨fun h => compareFrom_answer (compareRound_trivial h), fun a b hne ha hb => ?_⟩
  have hround := compareRound_records (neg := neg) hne ha hb
  refine ⟨fun hr => compareFrom_fault (hround.trans (compareRecords_rhsFault hr)), fun cr hr =>
    ⟨fun h => compareFrom_answer (hround.trans (compareRecords_lhsAncestor hr h)),
      fun h hl => compareFrom_fault (hround.trans (compareRecords_lhsFault hr h hl)), fun cl h hl =>
      ⟨fun h' => compareFrom_answer (hround.trans (compareRecords_rhsAncestor hr h hl h')), fun h' => ?_⟩⟩⟩
  rw [compareRecords_unrelated hr h hl h'] at hround
  constructor
  · intro hkind
    rw [compareWalk_unwalked hkind] at hround
    exact compareFrom_answer (hround.trans (congrArg some (compareParents_unwalked hkind)))
  · intro hab hkind
    rw [compareWalk_walked hab hkind] at hround
    refine ⟨fun hw => compareFrom_fault (by rw [hround, hw]; rfl), fun w hw hw0 => ?_, fun hw => ?_⟩
    · exact compareFrom_answer (by rw [hround, hw, Option.map_some, if_pos hw0])
    · replace hround : compareRound m neg lhs rhs = some (compareParents m a b) := by rw [hround, hw]; rfl
      constructor
      · intro hnone
        have hnorec : a.kind ≠ .segment ∨ b.kind ≠ .segment ∨ m.follow a.pseg = none ∨ m.follow b.pseg = none :=
          hnone.imp (fun hpoint => by simp [hpoint]) .inr
        exact compareFrom_answer (hround.trans (congrArg some (compareParents_answer hnorec)))
      · intro pa pb hseg hpa hpb
        rw [compareParents_recurse hseg (hab ▸ hseg) hpa hpb] at hround
        exact ⟨fun h0 => show compareFrom m neg allowed lhs rhs = none from h0 ▸ compareFrom_recurse_zero hround,
          fun n hn => hn ▸ compareFrom_recurse_succ hround⟩

/-- Settles O58: an answer of WALK says which of its two sides reaches the key. -/
theorem walkFindsTheSideOfTheKey : Obligations.WalkFindsTheSideOfTheKey := by
  unfold Obligations.WalkFindsTheSideOfTheKey
  refine ⟨fun m lhs rhs w h => ?_, fun m dir k n => neighbour_inTable⟩
  have hside := walkFrom_answersSide h
  simp only [AnswersSide, sideReaches_some] at hside
  refine hside.imp_right (Or.imp_right fun ⟨hw, hpos, hneg⟩ => ⟨hw, fun n hn => ?_⟩)
  exact ⟨fun hreach => hpos ⟨n, hn, hreach⟩, fun hreach => hneg ⟨n, hn, hreach⟩⟩

end

section
/-! The location queries on an acyclic table (20_memory R49): a fault of a chain, of a walk or of COMPARE takes as many steps
as LT has records, and on an acyclic table such a path would be of different keys, one more than LT holds. -/

namespace Sys2Proof.Machine

open Sys2Proof

variable {m : Memory}

/-! ## Paths of an acyclic relation -/

/-- `n` steps of `next` can be taken from a key. -/
def CanStep (next : LocKey → Option LocKey) : Nat → LocKey → Prop
  | 0, _ => True
  | n + 1, k => ∃ p, next k = some p ∧ CanStep next n p

/-- Every step of `next` leads to a key LT holds, and some rank falls along it. -/
def Descends (m : Memory) (next : LocKey → Option LocKey) : Prop :=
  ∃ rank : LocKey → Int, ∀ k p, next k = some p → (m.read p).isSome ∧ rank p < rank k

theorem parent_descends (h : m.ParentsAcyclic) : Descends m (parent m) := by
  obtain ⟨rank, hrank⟩ := h
  refine ⟨fun k => rank k, fun k p hp => ⟨?_, Int.ofNat_lt.mpr (hrank k p hp)⟩⟩
  obtain ⟨r, -, hr⟩ := parent_some hp
  exact parentOf_isSome hr

theorem neighbour_descends (h : m.OffsetsAcyclic) (dir : Dir) : Descends m (neighbour m dir) := by
  obtain ⟨rank, hpos, hneg⟩ := h
  cases dir with
  | pos => exact ⟨fun k => -rank k, fun k n hn => ⟨neighbour_isSome hn, neg_lt_neg (Int.ofNat_lt.mpr (hpos k n hn))⟩⟩
  | neg => exact ⟨fun k => rank k, fun k n hn => ⟨neighbour_isSome hn, Int.ofNat_lt.mpr (hneg k n hn)⟩⟩

/-- A path along which a rank falls visits different keys. -/
theorem canStep_keys {next : LocKey → Option LocKey} {rank : LocKey → Int}
    (hnext : ∀ k p, next k = some p → (m.read p).isSome ∧ rank p < rank k) : ∀ {n : Nat} {k : LocKey},
    (m.read k).isSome → CanStep next n k →
      ∃ l : List LocKey, l.length = n + 1 ∧ l.Nodup ∧ ∀ x ∈ l, (m.read x).isSome ∧ rank x ≤ rank k := by
  intro n
  induction n with
  | zero => exact fun {k} hk _ => ⟨[k], rfl, List.nodup_singleton k, by simpa using hk⟩
  | succ n ih =>
    rintro k hk ⟨p, hp, hsteps⟩
    obtain ⟨hpread, hlt⟩ := hnext k p hp
    obtain ⟨l, hlen, hnodup, hl⟩ := ih hpread hsteps
    refine ⟨k :: l, by simp [hlen], List.nodup_cons.mpr ⟨fun hmem => ?_, hnodup⟩, ?_⟩
    · exact absurd (hl k hmem).2 hlt.not_ge
    · rintro x (_ | ⟨_, hx⟩)
      · exact ⟨hk, le_rfl⟩
      · exact ⟨(hl x hx).1, (hl x hx).2.trans hlt.le⟩

/-- From a key LT holds, a relation that descends is followed for fewer than |LT| steps. -/
theorem canStep_lt {next : LocKey → Option LocKey} (h : Descends m next) {n : Nat} {k : LocKey}
    (hk : (m.read k).isSome) (hsteps : CanStep next n k) : n < m.length := by
  obtain ⟨rank, hnext⟩ := h
  obtain ⟨l, hlen, hnodup, hl⟩ := canStep_keys hnext hk hsteps
  have hbound := present_bound hnodup fun x hx => (hl x hx).1
  omega

/-! ## What a fault takes -/

/-- A chain that faults goes on by PARENT for as long as it is allowed. -/
theorem chainFrom_fault : ∀ {room : Nat} {k : LocKey}, chainFrom m room (some k) = none →
    (m.read k).isSome ∧ CanStep (parent m) room k := by
  intro room
  induction room with
  | zero =>
    intro k h
    refine ⟨Option.isSome_iff_ne_none.mpr fun hr => ?_, trivial⟩
    simp [chainFrom_missing 0 hr] at h
  | succ room ih =>
    intro k h
    cases hr : m.read k with
    | none => simp [chainFrom_missing _ hr] at h
    | some r =>
      rw [chainFrom_present _ hr] at h
      have hrest : chainFrom m room (parentOf m r) = none := Option.map_eq_none_iff.mp h
      cases hp : parentOf m r with
      | none => simp [hp, chainFrom] at hrest
      | some p => exact ⟨rfl, p, (parent_present hr).trans hp, (ih (hp ▸ hrest)).2⟩

/-- The end of one side of a walk goes on for `n` more steps. -/
def SideSteps (m : Memory) (dir : Dir) (n : Nat) (side : Option LocKey) : Prop :=
  ∃ a, side = some a ∧ CanStep (neighbour m dir) n a

theorem sideSteps_succ {dir : Dir} {n : Nat} {side : Option LocKey} (h : SideSteps m dir n (walkSide m dir side)) :
    SideSteps m dir (n + 1) side := by
  obtain ⟨c, hc, hsteps⟩ := h
  cases side with
  | none => cases hc
  | some a => exact ⟨a, rfl, c, hc, hsteps⟩

/-- A walk that faults goes on along one of its sides for as long as it is allowed. -/
theorem walkFrom_fault {rhs : LocKey} : ∀ {room : Nat} {e : WalkEnds}, walkFrom m rhs room e = none →
    SideSteps m .pos room e.ahead ∨ SideSteps m .neg room e.behind := by
  intro room e h
  have hend : ¬ (e.ahead = none ∧ e.behind = none) := fun hend => by simp [walkFrom_ended hend] at h
  cases room with
  | zero =>
    refine (not_and_or.mp hend).imp (fun ha => ?_) (fun hb => ?_)
    · obtain ⟨a, ha⟩ := Option.ne_none_iff_exists'.mp ha
      exact ⟨a, ha, trivial⟩
    · obtain ⟨b, hb⟩ := Option.ne_none_iff_exists'.mp hb
      exact ⟨b, hb, trivial⟩
  | succ room =>
    rw [walkFrom_succ hend] at h
    split_ifs at h
    exact (walkFrom_fault h).imp sideSteps_succ sideSteps_succ

/-! ## No chain and no walk faults -/

theorem chain_answers (h : m.ParentsAcyclic) (k : LocKey) : ∃ c, chain m k = some c := by
  refine Option.ne_none_iff_exists'.mp fun hfault => ?_
  obtain ⟨hk, hsteps⟩ := chainFrom_fault hfault
  exact lt_irrefl _ (canStep_lt (parent_descends h) hk hsteps)

theorem walk_answers (h : m.OffsetsAcyclic) {lhs : LocKey} (hl : (m.read lhs).isSome) (rhs : LocKey) :
    ∃ w, walk m lhs rhs = some w := by
  refine Option.ne_none_iff_exists'.mp fun hfault => ?_
  have bounded {dir : Dir} : ¬ SideSteps m dir m.length (some lhs) := by
    rintro ⟨_, ⟨⟩, hsteps⟩
    exact lt_irrefl _ (canStep_lt (neighbour_descends h dir) hl hsteps)
  exact (walkFrom_fault hfault).elim bounded bounded

theorem compareWalk_answers (h : m.OffsetsAcyclic) {lhs : LocKey} (hl : (m.read lhs).isSome) (rhs : LocKey)
    (a b : LocRecord) : ∃ w, compareWalk m lhs rhs a b = some w := by
  unfold compareWalk
  split
  · exact walk_answers h hl rhs
  · exact ⟨0, rfl⟩

theorem getEnclosing_answers (h : m.ParentsAcyclic) (self : LocKey) (sec : Option LocKey) :
    ∃ r, getEnclosing m self sec = some r := by
  cases sec with
  | none => exact ⟨_, rfl⟩
  | some sec =>
    by_cases hne : sec = self
    · subst hne
      exact ⟨_, getEnclosing_self m sec⟩
    · obtain ⟨a, ha⟩ := chain_answers h self
      obtain ⟨b, hb⟩ := chain_answers h sec
      exact ⟨_, getEnclosing_chains hne ha hb⟩

/-! ## COMPARE -/

/-- A round of COMPARE answers, or goes on with the parent of a left key that LT holds. -/
theorem compareRound_answers (hp : m.ParentsAcyclic) (ho : m.OffsetsAcyclic) (neg : Bool) (lhs rhs : LocKey) :
    (∃ v, compareRound m neg lhs rhs = some (.answer v)) ∨
      ∃ pa pb, compareRound m neg lhs rhs = some (.recurse pa pb) ∧ (m.read lhs).isSome ∧ parent m lhs = some pa := by
  by_cases htrivial : lhs = rhs ∨ m.read lhs = none ∨ m.read rhs = none
  · exact .inl ⟨0, compareRound_trivial htrivial⟩
  simp only [not_or, ← ne_eq, Option.ne_none_iff_exists'] at htrivial
  obtain ⟨hne, ⟨a, ha⟩, ⟨b, hb⟩⟩ := htrivial
  obtain ⟨cr, hr⟩ := chain_answers hp rhs
  obtain ⟨cl, hl⟩ := chain_answers hp lhs
  rw [compareRound_records hne ha hb]
  rcases compareRecords_cases (neg := neg) (a := a) (b := b) hr hl with hanswer | hwalked
  · exact .inl hanswer
  obtain ⟨w, hw⟩ := compareWalk_answers ho (Option.isSome_of_eq_some ha) rhs a b
  rw [hwalked, hw, Option.map_some]
  split
  · exact .inl ⟨_, rfl⟩
  · cases hround : compareParents m a b with
    | answer v => exact .inl ⟨v, rfl⟩
    | recurse pa pb =>
      obtain ⟨hseg, hpa⟩ := compareParents_eq_recurse hround
      exact .inr ⟨pa, pb, rfl, by simp [ha], parent_pseg ha hseg hpa⟩

/-- A call of COMPARE that faults goes on by PARENT for more steps than it is allowed. -/
theorem compareFrom_none (hp : m.ParentsAcyclic) (ho : m.OffsetsAcyclic) (neg : Bool) : ∀ {room : Nat} {lhs rhs : LocKey},
    compareFrom m neg room lhs rhs = none → (m.read lhs).isSome ∧ CanStep (parent m) (room + 1) lhs := by
  intro room
  induction room with
  | zero =>
    intro lhs rhs h
    rcases compareRound_answers hp ho neg lhs rhs with ⟨v, hv⟩ | ⟨pa, pb, -, hl, hpa⟩
    · rw [compareFrom_answer hv] at h; cases h
    · exact ⟨hl, pa, hpa, trivial⟩
  | succ room ih =>
    intro lhs rhs h
    rcases compareRound_answers hp ho neg lhs rhs with ⟨v, hv⟩ | ⟨pa, pb, hround, hl, hpa⟩
    · rw [compareFrom_answer hv] at h; cases h
    · rw [compareFrom_recurse_succ hround] at h
      exact ⟨hl, pa, hpa, (ih h).2⟩

theorem compareFrom_answers (hp : m.ParentsAcyclic) (ho : m.OffsetsAcyclic) (neg : Bool) (lhs rhs : LocKey) :
    ∃ r, compareFrom m neg m.length lhs rhs = some r := by
  refine Option.ne_none_iff_exists'.mp fun hfault => ?_
  obtain ⟨hl, hsteps⟩ := compareFrom_none hp ho neg hfault
  have := canStep_lt (parent_descends hp) hl hsteps
  omega

end Sys2Proof.Machine

open Sys2Proof Sys2Proof.Machine

/-- Settles O59: both queries answer, because no path of an acyclic table is as long as their bound. -/
theorem acyclicTableNeverFaults : Obligations.AcyclicTableNeverFaults := by
  unfold Obligations.AcyclicTableNeverFaults
  intro s neg lhs rhs sec hh hparents hoffsets
  obtain ⟨r, hr⟩ := getEnclosing_answers hparents lhs sec
  obtain ⟨v, hv⟩ := compareFrom_answers hparents hoffsets neg lhs rhs
  rw [execLocEnclosing_runs hh, execLocCompare_runs hh, queryReturn_some s hr, queryReturn_some s hv]
  exact ⟨⟨r, rfl⟩, v, rfl⟩

end

section
/-! The illegal op codes, and what HALTED does to a command (60_exceptions R156 and R157). -/

namespace Sys2Proof.Machine

open Sys2Proof

/-- The instructions of the eight illegal op codes (30_encoding R74). -/
def illegalOpCodes : List Instr :=
  [.reserved0, .reserved9, .reservedA, .reservedB, .reservedC, .reservedD, .reservedE, .reservedF]

variable {s : State}

/-- Fault(BAD_OP), whether the engine is halted or not. -/
theorem exec_illegalOpCode (s : State) : ∀ i ∈ illegalOpCodes, exec i s = .next (s.raise .badOp) := by
  simp only [illegalOpCodes, List.forall_mem_cons]
  exact ⟨rfl, rfl, rfl, rfl, rfl, rfl, rfl, rfl, List.forall_mem_nil _⟩

theorem raise_badOp (s : State) :
    s.raise .badOp = { s with fault := { s.fault with badOp := true }, reply := .fault .badOp } := rfl

theorem execReset_runs (s : State) : Runs (exec .reset s) := ⟨_, rfl⟩

theorem execBit_stuck (hh : s.halted = true) (b : Bool) : exec (.bit b) s = .fault .stuckHalted :=
  unlessHalted_stuck hh

theorem execGroupIn_stuck (hh : s.halted = true) (flags : Vector Bool 4) (values : Vector Word 4) (bt : BitTime) :
    exec (.groupIn flags values bt) s = .fault .stuckHalted := unlessHalted_stuck hh

theorem execLocOffset_stuck (hh : s.halted = true) (dir : Dir) (k : LocKey) (extent : BitVec 32) :
    exec (.locOffset dir k extent) s = .fault .stuckHalted := unlessHalted_stuck hh

theorem execLocEnclosing_stuck (hh : s.halted = true) (k : LocKey) (sec : Option LocKey) :
    exec (.locEnclosing k sec) s = .fault .stuckHalted := unlessHalted_stuck hh

theorem execLocCompare_stuck (hh : s.halted = true) (neg : Bool) (k k' : LocKey) :
    exec (.locCompare neg k k') s = .fault .stuckHalted := unlessHalted_stuck hh

end Sys2Proof.Machine

open Sys2Proof Sys2Proof.Machine

/-- Settles O11: the eight codes are those of `illegalOpCodes`, and all they do is raise BAD_OP. -/
theorem illegalOpCodesRaiseBadOp : Obligations.IllegalOpCodesRaiseBadOp := by
  unfold Obligations.IllegalOpCodesRaiseBadOp
  intro s
  have hillegal := exec_illegalOpCode s
  simp only [illegalOpCodes, List.forall_mem_cons, raise_badOp] at hillegal
  obtain ⟨h0, h9, hA, hB, hC, hD, hE, hF, -⟩ := hillegal
  exact ⟨h0, h9, hA, hB, hC, hD, hE, hF⟩

/-- Settles O15: six commands run under `unlessHalted`, and RESET, SNAPSHOT and the illegal op codes do not. -/
theorem haltedCommandsAreStuck : Obligations.HaltedCommandsAreStuck := by
  unfold Obligations.HaltedCommandsAreStuck
  intro s b neg flags values bt dir k k' sec extent hh
  exact ⟨execBit_stuck hh b, execEos_stuck hh, execGroupIn_stuck hh flags values bt, execLocOffset_stuck hh dir k extent,
    execLocEnclosing_stuck hh k sec, execLocCompare_stuck hh neg k k', execReset_runs s, ⟨_, execSnapshot_runs s⟩,
    exec_illegalOpCode s⟩

end

section
/-! Reset (70_reset_and_hazards R163 and R164): what the arrays of the reset table hold at an index, and RESET in every state. -/

namespace Sys2Proof.Machine

open Sys2Proof

/-! ## The arrays of the reset table -/

theorem Engine.reset_hist (k : Fin 104) : Engine.reset.hist[k] = [] := Vector.getElem_replicate k.isLt

theorem Engine.reset_gval (p : Fin 4) : Engine.reset.gval[p] = 0 := Vector.getElem_replicate p.isLt

theorem Engine.reset_gflg (p : Fin 4) : Engine.reset.gflg[p] = false := Vector.getElem_replicate p.isLt

theorem PsUnit.fresh_cur (c : Fin 8) : PsUnit.fresh.cur[c] = none := Vector.getElem_replicate c.isLt

theorem RtUnit.fresh_buf (c : Fin 64) : RtUnit.fresh.buf[c] = none := Vector.getElem_replicate c.isLt

theorem Station.fresh_gstat (k : Fin 32) : Station.fresh.gstat[k] = 0 := Vector.getElem_replicate k.isLt

theorem Station.fresh_di (d : Fin 4) : Station.fresh.di[d] = none := Vector.getElem_replicate d.isLt

theorem Station.fresh_slc (n : Fin 8) : Station.fresh.slc[n] = none := Vector.getElem_replicate n.isLt

theorem Station.fresh_slot (k : Fin 32) : Station.fresh.slot[k] = none := Vector.getElem_replicate k.isLt

/-! ## RESET -/

/-- Power-on is the same as a RESET (R163): the reset table is a RESET's result when no stream holds anything. -/
theorem resetEngine_reset : resetEngine Engine.reset = Engine.reset := rfl

/-- RESET has no guard: it runs in every state, and writes the engine and the reply alone. -/
theorem execReset_next (s : State) :
    exec .reset s = .next { s with toEngine := resetEngine s.toEngine, reply := .done } := rfl

end Sys2Proof.Machine

open Sys2Proof Sys2Proof.Machine

/-- Settles O1: the machine at reset holds `Engine.reset` with the fresh station; a row of scalars is its value there, and a
row of an array is its lemma above. -/
theorem resetLeavesTheResetTable : Obligations.ResetLeavesTheResetTable := by
  unfold Obligations.ResetLeavesTheResetTable
  have hbuffer (p : Fin 4) : Engine.reset.gval[p] = 0 ∧ Engine.reset.gflg[p] = false :=
    ⟨Engine.reset_gval p, Engine.reset_gflg p⟩
  refine ⟨rfl, rfl, Engine.reset_hist, rfl, rfl, rfl, hbuffer, rfl, rfl, rfl, rfl, rfl, ?station⟩
  refine ⟨rfl, rfl, Station.fresh_gstat, rfl, rfl, rfl, rfl, Station.fresh_di, rfl, ?units⟩
  refine ⟨PsUnit.fresh_cur, rfl, rfl, RtUnit.fresh_buf, rfl, rfl, ?tables⟩
  exact ⟨rfl, rfl, rfl, rfl, rfl, Station.fresh_slc, rfl, rfl, Station.fresh_slot, rfl⟩

/-- Settles O6: an engine as RESET leaves it is in order, and the table loaded at reset is in canonical form. -/
theorem resetMeetsTheInvariant : Obligations.ResetMeetsTheInvariant := by
  unfold Obligations.ResetMeetsTheInvariant
  have hreset : State.reset.toEngine = resetEngine Engine.reset := resetEngine_reset.symm
  exact (EngineOk.of_reset hreset).inv reset_memory_wf

/-- Settles O12: RESET replaces the engine by the one at reset with the streams kept, and writes the reply. -/
theorem resetCommandResult : Obligations.ResetCommandResult := by
  unfold Obligations.ResetCommandResult
  intro s
  have hengine : resetEngine s.toEngine =
      { State.reset.toEngine with
        events := s.events, groups := s.groups, synclog := s.synclog, tmcout := s.tmcout } := rfl
  rw [execReset_next, hengine]

end
